-- ==== Sys2Proof/Word.lean ====
section
/-! DEFINITION. The words of the block: every port, memory and stream access is one byte (spec/20_memory.md R73). -/

namespace Sys2Proof

/-- A byte: 8 bits, bit 0 the least significant (spec/00_scope.md R10). -/
abbrev Byte := BitVec 8

/-- A 16-bit value: a sample rate, or a count minus one (R28, R29). -/
abbrev Word16 := BitVec 16

/-- The transfer count field: 17 bits, because the count 65536 does not fit 16 (R29, spec/90_conflicts.md C2). -/
abbrev Count := BitVec 17

/-- A DMA channel number as a request and register `CH` carry it: 3 bits, legal values 0 to 3 (R30, R109). -/
abbrev ChanNo := BitVec 3

end Sys2Proof
end

