-- ==== Sys2Proof/Machine/Types.lean ====
section
/-! DEFINITION. The types of the block's registers, of the devices' hidden state, of the trace's events and of the
steps the other agents may take (spec/10_state.md, spec/46_environment.md). Plain data, no function-typed field. -/

namespace Sys2Proof.Machine

/-- The five registers of the DSP register block (R15, R38). -/
inductive DspReg
  | reset
  | rdata
  | wdata
  | wstatus
  | rstatus
deriving DecidableEq, Repr

/-- `SEQ`, the sequencer state (R22). -/
inductive SeqState
  | idle
  | busy
  | halted
deriving DecidableEq, Repr

/-- `RESP`, the response register (R34). -/
inductive Response
  | none
  | ok
  | byte (v : Byte)
  | version (maj min : Byte)
  | accepted (n : Nat)
  | outOfSpace
deriving DecidableEq, Repr

/-- `FF`, the flip-flop latch shared by the controller's channels (R46). -/
inductive FlipFlop
  | cleared
  | unknown
deriving DecidableEq, Repr

/-- `LOCK`, the DMA configuration lock: free, held by the sequencer, or held by another DMA user (R50). -/
inductive Lock
  | free
  | seq
  | other
deriving DecidableEq, Repr

/-- `MODE[ch]`: single-cycle memory-to-device without auto-initialisation, or anything else (R47). -/
inductive DmaMode
  | singleM2D
  | other
deriving DecidableEq, Repr

/-- The register set of one DMA channel, as whole values (R44, R45, R47 to R49). -/
structure Channel where
  /-- `MASK[ch]`: true = 1 = disabled -/
  mask : Bool
  mode : DmaMode
  /-- `ADDR[ch]`, below `2^PADDR_WIDTH` -/
  addr : Nat
  /-- `COUNT[ch]`, a byte count in 1..65536 -/
  count : Nat
  /-- `XFER[ch]`, the bytes moved since the channel was last programmed -/
  xfer : Nat
deriving DecidableEq, Repr

/-- `dsp.st` (R55). -/
inductive DspState
  | unknown
  | held
  | boot
  | ready
deriving DecidableEq, Repr

/-- `ACTIVE(mode, len, done)`: a playback session of the DSP (R55). -/
structure Session where
  mode : Byte
  len : Nat
  done : Nat
deriving DecidableEq, Repr

/-- The DSP's state (R55), with the byte last written to each of its two write-only registers (R39, R41). -/
structure Dsp where
  st : DspState
  pulseOk : Bool
  /-- `dsp.avail`, which is `RSTATUS[7]` -/
  avail : Bool
  /-- `dsp.latch`, the byte RDATA returns -/
  latch : Byte
  /-- `dsp.busy`, which is `WSTATUS[7]` -/
  busy : Bool
  /-- `dsp.out`, the bytes yet to present, first one first -/
  out : List Byte
  /-- `dsp.cmd`: NONE, or the command byte and the parameter bytes received so far -/
  cmd : Option (Byte × List Byte)
  rate : Word16
  /-- `dsp.sess`: NONE or ACTIVE -/
  sess : Option Session
  /-- the byte last written to RESET (not readable, R39) -/
  resetReg : Byte
  /-- the byte last written to WDATA (not readable, R41) -/
  wdataReg : Byte
deriving DecidableEq, Repr

/-- The fault codes of R302. -/
inductive FaultCode
  | deviceNotResponding
  | transferCountRange
  | dmaRange
  | flipFlopNotCleared
  | lockState
  | concurrentRequest
  | badRequest
deriving DecidableEq, Repr

/-- The number of a fault code (R302; the numbers are the spec's own). -/
def FaultCode.number : FaultCode → Nat
  | .deviceNotResponding => 1
  | .transferCountRange => 2
  | .dmaRange => 3
  | .flipFlopNotCleared => 4
  | .lockState => 5
  | .concurrentRequest => 6
  | .badRequest => 7

/-- The detail a fault records, in the form R302 gives for each code. -/
inductive FaultDetail
  /-- (register polled or RDATA, count) -/
  | device (r : DspReg) (n : Nat)
  /-- `CNT` -/
  | count (c : Count)
  /-- (`CH`, `PADDR`, `CNT`) -/
  | region (ch : ChanNo) (paddr : Nat) (c : Count)
  /-- `CH` -/
  | channel (ch : ChanNo)
  /-- `LOCK` -/
  | lock (l : Lock)
  /-- a request's selector -/
  | selector (sel : Byte)
deriving DecidableEq, Repr

/-- `FAULTINFO`: (sel, upc, detail), the first two NONE for a fault raised at acceptance while idle (R35, R301). -/
structure FaultInfo where
  sel : Option Byte
  upc : Option Nat
  detail : FaultDetail
deriving DecidableEq, Repr

/-- The DMA micro-operations as the trace records them, with their arguments (R58, R203 to R210). -/
inductive DmaOp
  | lock
  | unlock
  | disable (ch : ChanNo)
  | clrff (ch : ChanNo)
  | mode (ch : ChanNo) (m : DmaMode)
  | addr (ch : ChanNo) (paddr : Nat)
  | count (ch : ChanNo) (c : Count)
  | enable (ch : ChanNo)
deriving DecidableEq, Repr

/-- The events of the trace (R58). -/
inductive Event
  /-- `REQ(sel, operands)`: the operand values in the order of R110 -/
  | req (sel : Byte) (ops : List Nat)
  | rsp (r : Response)
  | pw (r : DspReg) (b : Byte)
  | pr (r : DspReg) (b : Byte)
  | dly (d : Nat)
  | dma (op : DmaOp)
  | logVersion (maj min : Byte)
  | logIntent (paddr : Nat) (c : Count) (rate : Word16)
  | bufw (i : Nat) (b : Byte)
  | xfer (ch : ChanNo) (a : Nat) (b : Byte)
  | underrun
  | fault (code : FaultCode) (info : FaultInfo)
deriving DecidableEq, Repr

/-- A step the DSP may take of its own, with the values it chooses (R267 to R269, R274 to R276). -/
inductive DspMove
  /-- do nothing, which every rule of the DSP's own steps allows -/
  | nothing
  /-- R267, present noise: a byte other than 0xAA -/
  | presentNoise (b : Byte)
  /-- R267, present ready -/
  | presentReady
  /-- R268 -/
  | clearBusy
  /-- R269 -/
  | presentOutput
  /-- R274: every component of the DSP takes any value; a transfer is a move of its own (notes/assumptions/28.md) -/
  | anything (avail : Bool) (latch : Byte) (busy : Bool) (out : List Byte) (cmd : Option (Byte × List Byte))
      (rate : Word16) (sess : Option Session)
  /-- R275: request one byte on channel `DMA_CH` -/
  | transfer
  /-- R276: play a sample without data -/
  | starve
deriving DecidableEq, Repr

/-- A step another DMA user may take (R282). -/
inductive UserMove
  | acquire
  | configure (ff : FlipFlop) (ch : ChanNo) (regs : Channel)
  | release
deriving DecidableEq, Repr

/-- Which agent takes the next step of the interleaving, and with which choice (R20, R85). -/
inductive Turn
  | sequencer
  /-- the host presents a request, as the words of its written form (R117): selector, then operand values -/
  | host (words : List Nat)
  | dsp (m : DspMove)
  | otherUser (m : UserMove)
deriving DecidableEq, Repr, Inhabited

end Sys2Proof.Machine
end

