-- ==== Sys2Proof/Config.lean ====
section
/-! DEFINITION. The parameters of a built block (spec/00_scope.md R7, R8), which a model takes as arguments, and the
free values: what the spec leaves to a draw, as constants that have no body. -/

namespace Sys2Proof

/-- The parameters of R7. They are read-only constants of a built block (R54): `State` carries one `Config` and no
step changes it (notes/assumptions/1.md). -/
structure Config where
  baseIo : Nat
  offReset : Nat
  offRdata : Nat
  offWdata : Nat
  offWstatus : Nat
  offRstatus : Nat
  /-- `DMA_CH`, legal values 0 to 3 -/
  dmaCh : ChanNo
  /-- `SAMPLE_RATE`, in Hz -/
  sampleRate : Word16
  /-- `CAP` -/
  cap : Nat
  /-- `BUF_PADDR` -/
  bufPaddr : Nat
  /-- `PADDR_WIDTH` -/
  paddrWidth : Nat
  modeByte : Byte
  resetPulseUs : Nat
  resetPulseMinUs : Nat
  /-- `POLL_LIMIT`: none = UNBOUNDED -/
  pollLimit : Option Nat
  /-- `RESET_READ_LIMIT`: none = UNBOUNDED -/
  resetReadLimit : Option Nat
deriving DecidableEq, Repr

namespace Config

/-- The defaults of R7. Marks: the addresses, `DMA_CH` and `PADDR_WIDTH` are PRESUMED (the spec's own
general-knowledge defaults); `BUF_PADDR` has no default in the spec and 0x20000, the value of its examples, is a
DESIGN CHOICE, unsafe for a claim that relies on it (notes/assumptions/2.md). -/
def default : Config where
  baseIo := 0x220
  offReset := 0x6
  offRdata := 0xA
  offWdata := 0xC
  offWstatus := 0xC
  offRstatus := 0xE
  dmaCh := 1
  sampleRate := 11025
  cap := 65536
  bufPaddr := 0x20000
  paddrWidth := 24
  modeByte := 0x00
  resetPulseUs := 3
  resetPulseMinUs := 3
  pollLimit := none
  resetReadLimit := none

/-- The address of a DSP register: `BASE_IO + OFF_X` (R38, R71). -/
def address (c : Config) : Machine.DspReg → Nat
  | .reset => c.baseIo + c.offReset
  | .rdata => c.baseIo + c.offRdata
  | .wdata => c.baseIo + c.offWdata
  | .wstatus => c.baseIo + c.offWstatus
  | .rstatus => c.baseIo + c.offRstatus

/-- The read-only register at an address: the access direction selects among registers that share one (R71). -/
def readRegister (c : Config) (a : Nat) : Option Machine.DspReg :=
  [.rdata, .wstatus, .rstatus].find? fun r => c.address r == a

/-- The write-only register at an address (R71). -/
def writeRegister (c : Config) (a : Nat) : Option Machine.DspReg :=
  [.reset, .wdata].find? fun r => c.address r == a

/-- A limit of R7 is UNBOUNDED or a natural of at least 1. -/
def limitOk : Option Nat → Bool
  | none => true
  | some n => 1 ≤ n

/-- The configuration check, made once when a block is built: the values R7 states for `SAMPLE_RATE`, `MODE_BYTE` and
`RESET_PULSE_MIN_US` (so that R8 makes `RESET_PULSE_US` at least 3), the constraints of R8, and R7's "a natural ≥ 1" for
the two limits. -/
def ok (c : Config) : Bool :=
  c.sampleRate == 11025 && c.modeByte == 0x00 && c.resetPulseMinUs == 3
  && 1 ≤ c.cap && c.cap ≤ 65536
  && c.dmaCh.toNat ≤ 3
  && c.resetPulseMinUs ≤ c.resetPulseUs
  && c.bufPaddr + c.cap ≤ 2 ^ c.paddrWidth
  && c.bufPaddr % 65536 + c.cap ≤ 65536
  && c.address .rdata != c.address .wstatus
  && c.address .rdata != c.address .rstatus
  && c.address .wstatus != c.address .rstatus
  && c.address .reset != c.address .wdata
  && limitOk c.pollLimit && limitOk c.resetReadLimit

/-- FREE VALUE. The n-th byte the environment draws once a state's own `draws` are used up: a status register's bits
6:0, a read of a DSP in UNKNOWN, a busy bit, the version bytes, the reset contents of a byte of memory
(R12, R42, R43, R66, R263 to R266, R270; notes/assumptions/7.md). It has no body: nothing constrains it. -/
opaque freeByte : Nat → Byte

/-- FREE VALUE. The n-th choice of who steps next, and how, once a state's own `turns` are used up: the interleaving
is any (R20, R85, R139; notes/assumptions/6.md). It has no body: nothing constrains it. -/
opaque freeTurn : Nat → Machine.Turn

end Config

end Sys2Proof
end

