-- ==== Sys2Proof/Syntax.lean ====
section
/-! DEFINITION. The instructions of the block, one constructor per row of spec/opcode_table.json: the 8 requests of
spec/30_encoding.md R110, the 24 micro-operations of R112 and the 3 DSP commands of R101. -/

namespace Sys2Proof

/-- The three levels at which the block reads codes (spec/30_encoding.md, opening): the same code byte may stand
at two levels (0x41 is `COPY` at one and `SET_OUTPUT_RATE` at another), so a code is read at a level. -/
inductive Level
  | request
  | micro
  | dsp
deriving DecidableEq, Repr

/-- The DSP register an `OUT` writes: `RESET` or `WDATA` (R112). -/
inductive OutReg
  | reset
  | wdata
deriving DecidableEq, Repr

/-- The byte sources of `OUT` (R113). -/
inductive ByteSource
  /-- `#imm`, the literal held in the micro-operation. -/
  | imm (b : Byte)
  /-- register `B` -/
  | regB
  /-- `RATE[15:8]` -/
  | rateHi
  /-- `RATE[7:0]` -/
  | rateLo
  /-- `((CNT - 1) mod 2^16)[7:0]` -/
  | cntM1Lo
  /-- `((CNT - 1) mod 2^16)[15:8]` -/
  | cntM1Hi
  /-- the parameter `MODE_BYTE` -/
  | modeByte
deriving DecidableEq, Repr

/-- The destination of `IN RDATA -> d` (R112, R152). -/
inductive InDest
  | v
  | maj
  | min
deriving DecidableEq, Repr

/-- The response source of `END s` (R112, R136). -/
inductive EndSource
  | ok
  | v
  | ver
  | acc
deriving DecidableEq, Repr

/-- The kind of a diagnostic log (R112, R177). -/
inductive LogKind
  | version
  | intent
deriving DecidableEq, Repr

/-- An instruction of the block: a request with its typed operands (R109, R110), a micro-operation with its fields
(R112), or a DSP command with its parameters (R101, R104). -/
inductive Instr
  -- requests, by selector (R110)
  | dspReset
  | dspQueryVersion
  | dspProgramOutput (rate : Word16) (count : Count)
  | dspReadByte
  | dspWriteByte (b : Byte)
  | dmaConfigure (ch : ChanNo) (paddr : Nat) (count : Count)
  | startPlayback (paddr : Nat) (count : Count) (rate : Word16)
  | submit (k : Nat) (src : List Byte)
  -- micro-operations, by code (R112)
  | out (r : OutReg) (src : ByteSource)
  | inp (d : InDest)
  | pollWr
  | pollRd
  | delay (d : Nat)
  | endOp (src : EndSource)
  | bneV (imm : Byte) (t : Nat)
  | chkCnt
  | log (k : LogKind)
  | chkDma
  | dmaLock
  | dmaUnlock
  | dmaDisable
  | dmaClearFf
  | dmaSetMode
  | dmaSetAddr
  | dmaSetCount
  | dmaEnable
  | chkSpace
  | copy
  | adv
  | bltFull (t : Nat)
  | loadTrig
  | ofsClr
  -- DSP commands, by command byte (R101)
  | getVersion
  | setOutputRate (rate : Word16)
  | dma8Output (mode : Byte) (countM1 : Word16)
deriving DecidableEq, Repr

/-- The level of an instruction: which of the three tables its row stands in. -/
def Instr.level : Instr → Level
  | .dspReset | .dspQueryVersion | .dspProgramOutput _ _ | .dspReadByte | .dspWriteByte _ | .dmaConfigure _ _ _
  | .startPlayback _ _ _ | .submit _ _ => .request
  | .getVersion | .setOutputRate _ | .dma8Output _ _ => .dsp
  | .out _ _ | .inp _ | .pollWr | .pollRd | .delay _ | .endOp _ | .bneV _ _ | .chkCnt | .log _ | .chkDma | .dmaLock
  | .dmaUnlock | .dmaDisable | .dmaClearFf | .dmaSetMode | .dmaSetAddr | .dmaSetCount | .dmaEnable | .chkSpace | .copy
  | .adv | .bltFull _ | .loadTrig | .ofsClr => .micro

end Sys2Proof
end

