-- ==== Sys2Proof/Decode.lean ====
section
/-! DEFINITION. Decoding and encoding. A written instruction is the list of its words: the code (selector,
micro-operation code or command byte) and then the operand values in the order of the spec's tables
(spec/30_encoding.md R101, R108, R110, R112, R117). The spec gives the operands no bit layout, so a word is the value
itself; the codes of a micro-operation's enumerated fields are the model's (notes/assumptions/4.md). A code is read
at a level, because 0x41 is listed at two (notes/assumptions/5.md). -/

namespace Sys2Proof

/-- `hi(v) = v[15:8]` (R10). -/
def hiByte (v : Word16) : Byte := v.extractLsb' 8 8

/-- `lo(v) = v[7:0]` (R10). -/
def loByte (v : Word16) : Byte := v.extractLsb' 0 8

/-- The 16-bit value with the given high and low bytes: `h * 256 + l` (R104). -/
def word16 (h l : Byte) : Word16 := h ++ l

/-- Why a list of words is no instruction of a level. -/
inductive DecodeError
  /-- the list is empty -/
  | noWord
  /-- the first word does not fit the 8-bit code field -/
  | codeNotAByte (w : Nat)
  /-- a selector R111 reserves -/
  | reservedSelector (sel : Byte)
  /-- a micro-operation code R112 does not list (R114) -/
  | unlistedMicroOperation (uop : Byte)
  /-- a command byte R101 does not list (R115) -/
  | unlistedCommand (b : Byte)
  /-- the operands are not values of the code's operand types, or not as many (R109) -/
  | badOperands (code : Byte)
deriving DecidableEq, Repr

/-- A field of `n` bits holds the word's value, if the value fits (R109: "A value outside a field's type cannot be
written"). -/
def field (n w : Nat) : Option (BitVec n) :=
  if w < 2 ^ n then some (BitVec.ofNat n w) else none

/-- A byte sequence read from words, if each word is a byte. -/
def byteList : List Nat → Option (List Byte)
  | [] => some []
  | w :: ws => match field 8 w, byteList ws with
    | some b, some bs => some (b :: bs)
    | _, _ => none

/-! ### Field codes of micro-operations (DESIGN CHOICE, safe: notes/assumptions/4.md) -/

/-- `r` of `OUT`: 0 RESET, 1 WDATA. -/
def OutReg.code : OutReg → Nat
  | .reset => 0
  | .wdata => 1

def OutReg.ofCode : Nat → Option OutReg
  | 0 => some .reset
  | 1 => some .wdata
  | _ => none

/-- `s` of `OUT`: a literal is its own value, 0 to 255; the named sources follow in the order of R113. -/
def ByteSource.code : ByteSource → Nat
  | .imm b => b.toNat
  | .regB => 0x100
  | .rateHi => 0x101
  | .rateLo => 0x102
  | .cntM1Lo => 0x103
  | .cntM1Hi => 0x104
  | .modeByte => 0x105

def ByteSource.ofCode (w : Nat) : Option ByteSource :=
  match field 8 w with
  | some b => some (.imm b)
  | none => match w with
    | 0x100 => some .regB
    | 0x101 => some .rateHi
    | 0x102 => some .rateLo
    | 0x103 => some .cntM1Lo
    | 0x104 => some .cntM1Hi
    | 0x105 => some .modeByte
    | _ => none

/-- `d` of `IN`: V, MAJ, MIN in the order of R112. -/
def InDest.code : InDest → Nat
  | .v => 0
  | .maj => 1
  | .min => 2

def InDest.ofCode : Nat → Option InDest
  | 0 => some .v
  | 1 => some .maj
  | 2 => some .min
  | _ => none

/-- `s` of `END`: OK, V, VER, ACC in the order of R112. -/
def EndSource.code : EndSource → Nat
  | .ok => 0
  | .v => 1
  | .ver => 2
  | .acc => 3

def EndSource.ofCode : Nat → Option EndSource
  | 0 => some .ok
  | 1 => some .v
  | 2 => some .ver
  | 3 => some .acc
  | _ => none

/-- `k` of `LOG`: VERSION, INTENT in the order of R112. -/
def LogKind.code : LogKind → Nat
  | .version => 0
  | .intent => 1

def LogKind.ofCode : Nat → Option LogKind
  | 0 => some .version
  | 1 => some .intent
  | _ => none

/-! ### Decoding, one total function per level -/

/-- The operands of a listed code, or the rejection that names the code. -/
def orBadOperands (code : Byte) : Option Instr → Except DecodeError Instr
  | some i => .ok i
  | none => .error (.badOperands code)

/-- The operands of a code that takes none. -/
def noOperands (i : Instr) : List Nat → Option Instr
  | [] => some i
  | _ :: _ => none

/-- The operands of each selector, in the order of R110. -/
def programOutputOperands : List Nat → Option Instr
  | [r, c] => match field 16 r, field 17 c with
    | some rate, some count => some (.dspProgramOutput rate count)
    | _, _ => none
  | _ => none

def writeByteOperands : List Nat → Option Instr
  | [w] => (field 8 w).map .dspWriteByte
  | _ => none

def configureOperands : List Nat → Option Instr
  | [h, a, c] => match field 3 h, field 17 c with
    | some ch, some count => some (.dmaConfigure ch a count)
    | _, _ => none
  | _ => none

def startOperands : List Nat → Option Instr
  | [a, c, r] => match field 17 c, field 16 r with
    | some count, some rate => some (.startPlayback a count rate)
    | _, _ => none
  | _ => none

def submitOperands : List Nat → Option Instr
  | k :: bs => match byteList bs with
    | some src => if src.length = k then some (.submit k src) else none
    | none => none
  | [] => none

/-- A request record: the selector, then its operand values (R110, R117). A selector that R111 reserves is rejected
whatever follows it. -/
def decodeRequest : List Nat → Except DecodeError Instr
  | [] => .error .noWord
  | sel :: ops => match sel with
    | 0x01 => orBadOperands 0x01 (noOperands .dspReset ops)
    | 0x02 => orBadOperands 0x02 (noOperands .dspQueryVersion ops)
    | 0x03 => orBadOperands 0x03 (programOutputOperands ops)
    | 0x04 => orBadOperands 0x04 (noOperands .dspReadByte ops)
    | 0x05 => orBadOperands 0x05 (writeByteOperands ops)
    | 0x06 => orBadOperands 0x06 (configureOperands ops)
    | 0x07 => orBadOperands 0x07 (startOperands ops)
    | 0x08 => orBadOperands 0x08 (submitOperands ops)
    | w => match field 8 w with
      | some s => .error (.reservedSelector s)
      | none => .error (.codeNotAByte w)

/-- The fields of each micro-operation that has any, in the order of R112. -/
def outFields : List Nat → Option Instr
  | [r, s] => match OutReg.ofCode r, ByteSource.ofCode s with
    | some reg, some src => some (.out reg src)
    | _, _ => none
  | _ => none

/-- `r` is `RDATA`, the only value of the field, code 0. -/
def inFields : List Nat → Option Instr
  | [0, d] => (InDest.ofCode d).map .inp
  | _ => none

def delayFields : List Nat → Option Instr
  | [d] => some (.delay d)
  | _ => none

def endFields : List Nat → Option Instr
  | [s] => (EndSource.ofCode s).map .endOp
  | _ => none

def bneFields : List Nat → Option Instr
  | [w, t] => (field 8 w).map fun imm => .bneV imm t
  | _ => none

def logFields : List Nat → Option Instr
  | [k] => (LogKind.ofCode k).map .log
  | _ => none

/-- `m` is `SINGLE_M2D`, the only value of the field, code 0. -/
def modeFields : List Nat → Option Instr
  | [0] => some .dmaSetMode
  | _ => none

def bltFields : List Nat → Option Instr
  | [t] => some (.bltFull t)
  | _ => none

/-- A micro-operation record: the code, then its fields (R112). -/
def decodeMicro : List Nat → Except DecodeError Instr
  | [] => .error .noWord
  | uop :: fs => match uop with
    | 0x10 => orBadOperands 0x10 (outFields fs)
    | 0x11 => orBadOperands 0x11 (inFields fs)
    | 0x12 => orBadOperands 0x12 (noOperands .pollWr fs)
    | 0x13 => orBadOperands 0x13 (noOperands .pollRd fs)
    | 0x14 => orBadOperands 0x14 (delayFields fs)
    | 0x18 => orBadOperands 0x18 (endFields fs)
    | 0x20 => orBadOperands 0x20 (bneFields fs)
    | 0x21 => orBadOperands 0x21 (noOperands .chkCnt fs)
    | 0x22 => orBadOperands 0x22 (logFields fs)
    | 0x30 => orBadOperands 0x30 (noOperands .chkDma fs)
    | 0x31 => orBadOperands 0x31 (noOperands .dmaLock fs)
    | 0x32 => orBadOperands 0x32 (noOperands .dmaUnlock fs)
    | 0x33 => orBadOperands 0x33 (noOperands .dmaDisable fs)
    | 0x34 => orBadOperands 0x34 (noOperands .dmaClearFf fs)
    | 0x35 => orBadOperands 0x35 (modeFields fs)
    | 0x36 => orBadOperands 0x36 (noOperands .dmaSetAddr fs)
    | 0x37 => orBadOperands 0x37 (noOperands .dmaSetCount fs)
    | 0x38 => orBadOperands 0x38 (noOperands .dmaEnable fs)
    | 0x40 => orBadOperands 0x40 (noOperands .chkSpace fs)
    | 0x41 => orBadOperands 0x41 (noOperands .copy fs)
    | 0x42 => orBadOperands 0x42 (noOperands .adv fs)
    | 0x43 => orBadOperands 0x43 (bltFields fs)
    | 0x44 => orBadOperands 0x44 (noOperands .loadTrig fs)
    | 0x45 => orBadOperands 0x45 (noOperands .ofsClr fs)
    | w => match field 8 w with
      | some u => .error (.unlistedMicroOperation u)
      | none => .error (.codeNotAByte w)

/-- The parameters of each DSP command, in the order of R101: the rate high byte first, the count low byte first
(R104). -/
def rateParameters : List Nat → Option Instr
  | [p0, p1] => match field 8 p0, field 8 p1 with
    | some h, some l => some (.setOutputRate (word16 h l))
    | _, _ => none
  | _ => none

def outputParameters : List Nat → Option Instr
  | [p0, p1, p2] => match field 8 p0, field 8 p1, field 8 p2 with
    | some m, some l, some h => some (.dma8Output m (word16 h l))
    | _, _, _ => none
  | _ => none

/-- A DSP command: the command byte, then its parameter bytes (R100, R101). -/
def decodeDsp : List Nat → Except DecodeError Instr
  | [] => .error .noWord
  | cmd :: ps => match cmd with
    | 0xE1 => orBadOperands 0xE1 (noOperands .getVersion ps)
    | 0x41 => orBadOperands 0x41 (rateParameters ps)
    | 0xC0 => orBadOperands 0xC0 (outputParameters ps)
    | w => match field 8 w with
      | some b => .error (.unlistedCommand b)
      | none => .error (.codeNotAByte w)

/-- The decoder: the instruction a list of words is at a level, or why it is none. -/
def decode : Level → List Nat → Except DecodeError Instr
  | .request => decodeRequest
  | .micro => decodeMicro
  | .dsp => decodeDsp

/-! ### Encoding -/

/-- The code of an instruction: its selector (R110), micro-operation code (R112) or command byte (R101). -/
def Instr.code : Instr → Byte
  | .dspReset => 0x01
  | .dspQueryVersion => 0x02
  | .dspProgramOutput _ _ => 0x03
  | .dspReadByte => 0x04
  | .dspWriteByte _ => 0x05
  | .dmaConfigure _ _ _ => 0x06
  | .startPlayback _ _ _ => 0x07
  | .submit _ _ => 0x08
  | .out _ _ => 0x10
  | .inp _ => 0x11
  | .pollWr => 0x12
  | .pollRd => 0x13
  | .delay _ => 0x14
  | .endOp _ => 0x18
  | .bneV _ _ => 0x20
  | .chkCnt => 0x21
  | .log _ => 0x22
  | .chkDma => 0x30
  | .dmaLock => 0x31
  | .dmaUnlock => 0x32
  | .dmaDisable => 0x33
  | .dmaClearFf => 0x34
  | .dmaSetMode => 0x35
  | .dmaSetAddr => 0x36
  | .dmaSetCount => 0x37
  | .dmaEnable => 0x38
  | .chkSpace => 0x40
  | .copy => 0x41
  | .adv => 0x42
  | .bltFull _ => 0x43
  | .loadTrig => 0x44
  | .ofsClr => 0x45
  | .getVersion => 0xE1
  | .setOutputRate _ => 0x41
  | .dma8Output _ _ => 0xC0

/-- The operand words that follow the code, in the order of R101, R110 and R112. -/
def Instr.operands : Instr → List Nat
  | .dspProgramOutput rate count => [rate.toNat, count.toNat]
  | .dspWriteByte b => [b.toNat]
  | .dmaConfigure ch paddr count => [ch.toNat, paddr, count.toNat]
  | .startPlayback paddr count rate => [paddr, count.toNat, rate.toNat]
  | .submit k src => k :: src.map BitVec.toNat
  | .out r src => [r.code, src.code]
  | .inp d => [0, d.code]
  | .delay d => [d]
  | .endOp src => [src.code]
  | .bneV imm t => [imm.toNat, t]
  | .log k => [k.code]
  | .dmaSetMode => [0]
  | .bltFull t => [t]
  | .setOutputRate rate => [(hiByte rate).toNat, (loByte rate).toNat]
  | .dma8Output mode countM1 => [mode.toNat, (loByte countM1).toNat, (hiByte countM1).toNat]
  | .dspReset | .dspQueryVersion | .dspReadByte | .pollWr | .pollRd | .chkCnt | .chkDma | .dmaLock | .dmaUnlock
  | .dmaDisable | .dmaClearFf | .dmaSetAddr | .dmaSetCount | .dmaEnable | .chkSpace | .copy | .adv | .loadTrig
  | .ofsClr | .getVersion => []

/-- The words of an instruction: its code, then its operand values. -/
def encode (i : Instr) : List Nat := i.code.toNat :: i.operands

/-! ### The opcode table's words -/

/-- The number of operand words that follow a code when every operand is zero. -/
def zeroOperands : Level → Nat → Nat
  | .request, w => match w with
    | 0x03 => 2
    | 0x05 => 1
    | 0x06 => 3
    | 0x07 => 3
    | 0x08 => 1
    | _ => 0
  | .micro, w => match w with
    | 0x10 => 2
    | 0x11 => 2
    | 0x14 => 1
    | 0x18 => 1
    | 0x20 => 2
    | 0x22 => 1
    | 0x35 => 1
    | 0x43 => 1
    | _ => 0
  | .dsp, w => match w with
    | 0x41 => 2
    | 0xC0 => 3
    | _ => 0

/-- The instruction of a level whose code is `w` and whose operand words are all zero. -/
def decodeZero (l : Level) (w : Nat) : Option Instr :=
  match decode l (w :: List.replicate (zeroOperands l w) 0) with
  | .ok i => some i
  | .error _ => none

/-- The instruction of a row of spec/opcode_table.json: the table gives a row the 8 bits of its code and the operand
words no bits, so they are zero. The levels are tried in the table's order; 0x41 stands for two rows, `COPY` and
`SET_OUTPUT_RATE`, and this function can answer only one of them: the micro-operation (notes/assumptions/5.md). -/
def decodeTableWord (nbits w : Nat) : Option Instr :=
  if nbits < 8 ∨ 256 ≤ w then none
  else match decodeZero .request w with
    | some i => some i
    | none => match decodeZero .micro w with
      | some i => some i
      | none => decodeZero .dsp w

end Sys2Proof
end

