-- ==== Sys2Proof/Machine/Microcode.lean ====
section
/-! DEFINITION. The microcode of the eight requests: the listings of spec/42_dsp_protocol.md to 45_staging_buffer.md
(index in spec/40_sequencer.md R138), and the microcode store a block is built with. -/

namespace Sys2Proof.Machine.Microcode

/-- `WRITEBYTE s` of R119: the pair `POLL_WR; OUT WDATA, s`. -/
def writeByte (s : ByteSource) : List Instr := [.pollWr, .out .wdata s]

/-- `READBYTE d` of R119: the pair `POLL_RD; IN RDATA -> d`. -/
def readByte (d : InDest) : List Instr := [.pollRd, .inp d]

/-- Entries 1 to 14 of R178: the seven bytes of R180, each after its poll. -/
def programBody : List Instr :=
  writeByte (.imm 0x41) ++ writeByte .rateHi ++ writeByte .rateLo ++ writeByte (.imm 0xC0) ++ writeByte .modeByte
    ++ writeByte .cntM1Lo ++ writeByte .cntM1Hi

/-- Entries 1 to 8 of R201. -/
def configureBody : List Instr :=
  [.dmaLock, .dmaDisable, .dmaClearFf, .dmaSetMode, .dmaSetAddr, .dmaSetCount, .dmaEnable, .dmaUnlock]

/-- Entries 0 to 24 of R231: the two range checks, the log, the channel, the DSP. -/
def triggerBody : List Instr := [.chkCnt, .chkDma, .log .intent] ++ configureBody ++ programBody

/-- `UCODE(sel)` (R135): the listing of R173, R176, R178, R171, R172, R201, R231, R241; a reserved selector has
none. -/
def listing (c : Config) (sel : Byte) : List Instr :=
  match sel.toNat with
  | 0x01 => [.out .reset (.imm 0x01), .delay c.resetPulseUs, .out .reset (.imm 0x00)] ++ readByte .v
      ++ [.bneV 0xAA 3, .endOp .ok]
  | 0x02 => writeByte (.imm 0xE1) ++ readByte .maj ++ readByte .min ++ [.log .version, .endOp .ver]
  | 0x03 => [.chkCnt] ++ programBody ++ [.endOp .ok]
  | 0x04 => readByte .v ++ [.endOp .v]
  | 0x05 => writeByte .regB ++ [.endOp .ok]
  | 0x06 => [.chkDma] ++ configureBody ++ [.endOp .ok]
  | 0x07 => triggerBody ++ [.endOp .ok]
  | 0x08 => [.chkSpace, .copy, .adv, .bltFull 31, .loadTrig] ++ triggerBody ++ [.ofsClr, .endOp .acc]
  | _ => []

/-- A microcode store: at a selector and an index, the words of a micro-operation. -/
abbrev Store := List ((Byte × Nat) × List Nat)

/-- The words at a selector and an index. -/
def Store.at (m : Store) (sel : Byte) (n : Nat) : Option (List Nat) := m.lookup (sel, n)

/-- A listing placed at a selector from an index on. -/
def place (sel : Byte) : Nat → List Instr → Store
  | _, [] => []
  | n, u :: us => ((sel, n), encode u) :: place sel (n + 1) us

/-- The selectors of R110. -/
def selectors : List Byte := [0x01, 0x02, 0x03, 0x04, 0x05, 0x06, 0x07, 0x08]

/-- The microcode store of a built block (R91, R135): the eight listings, each from index 0. -/
def rom (c : Config) : Store := selectors.flatMap fun sel => place sel 0 (listing c sel)

/-- The store with one micro-operation put at a selector and an index (what loading a block with other microcode
would do; no step of the machine does it). -/
def Store.put (m : Store) (sel : Byte) (n : Nat) (words : List Nat) : Store :=
  ((sel, n), words) :: m.filter fun e => e.1 != (sel, n)

end Sys2Proof.Machine.Microcode
end

