-- ==== Sys2Proof/Machine/State.lean ====
section
/-! DEFINITION. The state of the block, of the devices behind it and of the interleaving (spec/10_state.md R20 to R58),
its value after block reset (R59 to R66), and the reasons a step can stop. -/

namespace Sys2Proof.Machine

/-- Why the model stops where the spec names no effect. Each stop is reached only from states that no run of the
built microcode reaches (spec/43_dma_channel.md R211, spec/45_staging_buffer.md R249), and each is safe: the model
stops where the spec says nothing. -/
inductive Fault
  /-- `COPY` or the DMA transfer reaches an address at or above `2^PADDR_WIDTH`, which R70 says does not exist
  (notes/assumptions/14.md). Safe. -/
  | physicalAddress (a : Nat)
  /-- The DMA transfer finds channel `DMA_CH` armed in a mode other than single-cycle memory-to-device, of which R47
  says only that it is another (notes/assumptions/22.md). Safe. -/
  | channelMode (ch : ChanNo)
  /-- A channel micro-operation, or the DMA transfer, names a channel above 3, which R44 does not give the controller
  (notes/assumptions/15.md). Safe. -/
  | dmaChannel (ch : ChanNo)
  /-- `COPY` reads `SRC[i]` past the end of `SRC` (R31; notes/assumptions/16.md). Safe. -/
  | sourceByte (i : Nat)
deriving DecidableEq, Repr

/-- Why a step has no meaning. -/
inductive Refusal
  /-- An instruction of the opcode table that has no meaning yet. Safe. -/
  | notModelled (mnemonic : String)
  /-- The microcode store holds no micro-operation at (`SEL`, `UPC`): the sequencer raises it, and no built block does
  (R114, R138; notes/assumptions/17.md). Safe. -/
  | noMicroOperation (sel : Byte) (upc : Nat)
deriving DecidableEq, Repr

/-- Bytes of physical memory, as (address, byte) pairs with addresses strictly rising. An address that is not listed
holds no value in it (R66: the buffer's reset contents are any; notes/assumptions/13.md). -/
abbrev Memory := List Host.Cell

/-- The machine. Comments name the register of spec/10_state.md and its rule. -/
structure State where
  /-- the parameters the block is built with (R7, R54) -/
  cfg : Config
  /-- `UCODE`, the microcode the block is built with (R91, R135) -/
  ucode : Microcode.Store
  /-- `SEQ` (R22) -/
  seq : SeqState
  /-- `SEL` (R23) -/
  sel : Byte
  /-- `UPC` (R24) -/
  upc : Nat
  /-- `V` (R25) -/
  v : Byte
  /-- `MAJ` (R26) -/
  maj : Byte
  /-- `MIN` (R26) -/
  min : Byte
  /-- `B` (R27) -/
  b : Byte
  /-- `RATE` (R28) -/
  rate : Word16
  /-- `CNT` (R29) -/
  cnt : Count
  /-- `PADDR`, below `2^PADDR_WIDTH` (R30) -/
  paddr : Nat
  /-- `CH` (R30) -/
  ch : ChanNo
  /-- `K` (R31) -/
  k : Nat
  /-- `SRC` (R31) -/
  src : List Byte
  /-- `ACC` (R32) -/
  acc : Nat
  /-- `I` (R32) -/
  idx : Nat
  /-- `POLLS` (R33) -/
  polls : Nat
  /-- `RETRIES` (R33) -/
  retries : Nat
  /-- `RESP` (R34) -/
  resp : Response
  /-- `FAULT`: NONE or one fault code (R35) -/
  fault : Option FaultCode
  /-- `FAULTINFO` (R35) -/
  faultInfo : FaultInfo
  /-- `OFFSET` (R51) -/
  offset : Nat
  /-- `TRIGGERS` (R52) -/
  triggers : Nat
  /-- physical memory, the staging buffer `BUF` in it: the bytes something has written (R53, R70) -/
  mem : Memory
  /-- the reset contents of memory, as far as reads have come upon them: each byte's one value is drawn when it is
  first read with nothing written there, and kept (R66, R87; notes/assumptions/13.md) -/
  memReset : Memory
  /-- the DSP and its five registers (R38 to R43, R55) -/
  dsp : Dsp
  /-- `MASK`, `MODE`, `ADDR`, `COUNT`, `XFER` of channels 0 to 3 (R44, R45, R47 to R49) -/
  channels : Vector Channel 4
  /-- `FF` (R46) -/
  ff : FlipFlop
  /-- `LOCK` (R50) -/
  lock : Lock
  /-- `TRACE`, oldest event first (R57) -/
  trace : List Event
  /-- MODEL'S OWN: the interleaving still to come, next turn first (R20, R85; notes/assumptions/6.md) -/
  turns : List Turn
  /-- MODEL'S OWN: the bytes the environment will draw, next one first (R12; notes/assumptions/7.md) -/
  draws : List Byte
  /-- MODEL'S OWN: how many free values have been taken after `turns` or `draws` ran out (notes/assumptions/6.md,
  notes/assumptions/7.md) -/
  tick : Nat
deriving DecidableEq, Repr

namespace State

/-- A channel after block reset. `MASK = 1` is the spec's for `DMA_CH` (R64, R65); the rest is unwritten or any
there and named here (DESIGN CHOICE, unsafe: notes/assumptions/12.md). -/
def resetChannel : Channel where
  mask := true
  mode := .other
  addr := 0
  count := 1
  xfer := 0

/-- The DSP after block reset: UNKNOWN with no good pulse (R63); the rest is any or unwritten there and named here
(DESIGN CHOICE, unsafe: notes/assumptions/11.md). -/
def resetDsp : Dsp where
  st := .unknown
  pulseOk := false
  avail := false
  latch := 0
  busy := false
  out := []
  cmd := none
  rate := 0
  sess := none
  resetReg := 0
  wdataReg := 0

/-- The machine right after block reset of a block built with the parameters `c` (R59 to R66, R330). `SEQ`, `POLLS`,
`RETRIES`, `RESP`, `FAULT`, `TRIGGERS`, `TRACE`, `OFFSET`, `LOCK`, `FF` are the spec's; registers R61 leaves unwritten
are zero (DESIGN CHOICE, unsafe: notes/assumptions/9.md, notes/assumptions/10.md). -/
def resetWith (c : Config) : State where
  cfg := c
  ucode := Microcode.rom c
  seq := .idle
  sel := 0
  upc := 0
  v := 0
  maj := 0
  min := 0
  b := 0
  rate := 0
  cnt := 0
  paddr := 0
  ch := 0
  k := 0
  src := []
  acc := 0
  idx := 0
  polls := 0
  retries := 0
  resp := .none
  fault := none
  faultInfo := { sel := none, upc := none, detail := .selector 0 }
  offset := 0
  triggers := 0
  mem := []
  memReset := []
  dsp := resetDsp
  channels := Vector.replicate 4 resetChannel
  ff := .unknown
  lock := .free
  trace := []
  turns := []
  draws := []
  tick := 0

/-- The machine right after block reset, built with the default parameters of R7 (notes/assumptions/2.md). -/
def reset : State := resetWith Config.default

end State

end Sys2Proof.Machine
end

