-- ==== Sys2Proof/Machine/Ops.lean ====
section
/-! DEFINITION. The shared operations of the sequencer: draws and turns, memory, DMA channels, the ways a
micro-operation ends (R137), taking a fault (R301; there is no return from one, R305), and the presenting of a
request (R131 to R134). -/

namespace Sys2Proof.Machine

/-- The outcome of a step of this machine. -/
abbrev Result := Host.Outcome State Fault Refusal

/-! ### Memory: one byte per access (R70, R73, R81) -/

/-- The byte at an address, or none if nothing has written it. -/
def Memory.read (m : Memory) (a : Nat) : Option Byte := m.lookup a

/-- The memory with one byte written; the addresses stay strictly rising. -/
def Memory.write : Memory → Nat → Byte → Memory
  | [], a, b => [(a, b)]
  | (a', b') :: m, a, b =>
    if a < a' then (a, b) :: (a', b') :: m
    else if a = a' then (a, b) :: m
    else (a', b') :: Memory.write m a b

/-- The canonical form: addresses strictly rising. (An unlisted address holds no value, so no entry can equal what it
reads as.) -/
abbrev Memory.wf (m : Memory) : Prop := (m.map Prod.fst).Pairwise (· < ·)

namespace State

/-- An address of physical memory is below `2^PADDR_WIDTH` (R70). -/
def inMemory (s : State) (a : Nat) : Bool := a < 2 ^ s.cfg.paddrWidth

/-! ### Draws and turns -/

/-- A byte the environment draws: the next of `draws`, or the next free byte (R12). -/
def draw (s : State) : Byte × State :=
  match s.draws with
  | x :: xs => (x, { s with draws := xs })
  | [] => (Config.freeByte s.tick, { s with tick := s.tick + 1 })

/-- The next turn of the interleaving: the next of `turns`, or the next free turn (R20, R85). -/
def takeTurn (s : State) : Turn × State :=
  match s.turns with
  | t :: ts => (t, { s with turns := ts })
  | [] => (Config.freeTurn s.tick, { s with tick := s.tick + 1 })

/-- The byte memory holds at an address: the one last written, or else its reset contents once a read has come upon
them (R66, R87). -/
def byteAt (s : State) (a : Nat) : Option Byte := (s.mem.read a).or (s.memReset.read a)

/-- The reset contents of a byte, drawn and kept (R66). -/
def drawReset (s : State) (a : Nat) : Byte × State :=
  let d := s.draw
  (d.1, { d.2 with memReset := d.2.memReset.write a d.1 })

/-- `MemRead(a, 1)`: the byte of the latest write to `a`, "or the reset value (any) if there is none" (R87). -/
def memRead (s : State) (a : Nat) : Byte × State :=
  match s.byteAt a with
  | some x => (x, s)
  | none => s.drawReset a

/-- `MemWrite(a, 1, x)` (R81). -/
def memWrite (s : State) (a : Nat) (x : Byte) : State := { s with mem := s.mem.write a x }

/-! ### How a micro-operation ends (R137) -/

/-- `emit(e)`: append an event to the trace (R11, R57). -/
def emit (s : State) (e : Event) : State := { s with trace := s.trace ++ [e] }

/-- `advance`: `UPC <- UPC + 1; POLLS <- 0`. -/
def advance (s : State) : State := { s with upc := s.upc + 1, polls := 0 }

/-- `branch t`: `UPC <- t; POLLS <- 0`. -/
def branch (s : State) (t : Nat) : State := { s with upc := t, polls := 0 }

/-- `end(r)`: `RESP <- r; SEQ <- IDLE; emit RSP(r)` (R136). -/
def finish (s : State) (r : Response) : State := { s with resp := r, seq := .idle, trace := s.trace ++ [.rsp r] }

/-! ### Fault entry (R301) -/

/-- Fault entry with a given FAULTINFO: `FAULT <- code; FAULTINFO <- info; SEQ <- HALTED; emit FAULT(code, info)`. -/
def halt (s : State) (code : FaultCode) (info : FaultInfo) : State :=
  { s with fault := some code, faultInfo := info, seq := .halted, trace := s.trace ++ [.fault code info] }

/-- `raise Fault(code, detail)` in a micro-operation, or at acceptance while BUSY: the record takes `SEL` and
`UPC`. -/
def raise (s : State) (code : FaultCode) (detail : FaultDetail) : State :=
  s.halt code { sel := some s.sel, upc := some s.upc, detail := detail }

/-- `raise Fault(code, detail)` at acceptance while IDLE: no selector and no UPC. -/
def raiseIdle (s : State) (code : FaultCode) (detail : FaultDetail) : State :=
  s.halt code { sel := none, upc := none, detail := detail }

/-! ### Requests (R131 to R134) -/

/-- Acceptance (R131): the operands are latched by `latch`, then the sequencer starts the listing. -/
def accept (s : State) (sel : Byte) (ops : List Nat) (latch : State → State) : State :=
  { latch s with
    sel := sel, upc := 0, polls := 0, retries := 0, resp := .none, seq := .busy, trace := s.trace ++ [.req sel ops] }

/-- A listed request presented: accepted while IDLE (R131), a concurrent-request fault while BUSY (R132), no step while
HALTED (R134). -/
def present (s : State) (sel : Byte) (ops : List Nat) (latch : State → State) : State :=
  match s.seq with
  | .idle => s.accept sel ops latch
  | .busy => s.raise .concurrentRequest (.selector sel)
  | .halted => s

/-- A request with a reserved selector presented: R133 while IDLE, R132 while BUSY, R134 while HALTED. -/
def presentReserved (s : State) (sel : Byte) : State :=
  match s.seq with
  | .idle => s.raiseIdle .badRequest (.selector sel)
  | .busy => s.raise .concurrentRequest (.selector sel)
  | .halted => s

/-! ### DMA channels (R44, R50) -/

/-- The registers of a channel; the controller has channels 0 to 3 (R44). -/
def channel? (s : State) (ch : ChanNo) : Option Channel := s.channels[ch.toNat]?

/-- The machine with the registers of a channel replaced. -/
def setChannel (s : State) (ch : ChanNo) (c : Channel) : State :=
  { s with channels := s.channels.setIfInBounds ch.toNat c }

/-- A DMA micro-operation that needs the lock: `if LOCK /= SEQ: raise Fault(F_LOCK_STATE, LOCK)` (R205 to R210). -/
def underLock (s : State) (f : State → Result) : Result :=
  if s.lock = .seq then f s else .next (s.raise .lockState (.lock s.lock))

/-- The test of R208 and R209: `if FF /= CLEARED: raise Fault(F_FLIPFLOP_NOT_CLEARED, CH)`. -/
def withClearedFf (s : State) (f : State → Result) : Result :=
  if s.ff = .cleared then f s else .next (s.raise .flipFlopNotCleared (.channel s.ch))

/-- An update of the registers of channel `CH`; a channel the controller does not have stops the model
(notes/assumptions/15.md). -/
def updateChannel (s : State) (g : Channel → Channel) (f : State → Result) : Result :=
  match s.channel? s.ch with
  | some c => f (s.setChannel s.ch (g c))
  | none => .fault (.dmaChannel s.ch)

/-! ### Limits -/

/-- A limit of R7 is reached: it is a number and the count has come to it (R153, R154, R174). -/
def limitReached (limit : Option Nat) (n : Nat) : Bool :=
  match limit with
  | none => false
  | some m => m ≤ n

end State

end Sys2Proof.Machine
end

