-- ==== Sys2Proof/Machine/Flags.lean ====
section
/-! DEFINITION. The block has no condition codes; the only flags it reads are bit 7 of the two DSP status registers
(R37, R105): `WSTATUS[7] = BUSY`, `RSTATUS[7] = AVAIL`. -/

namespace Sys2Proof.Machine

/-- A status byte: the flag in bit 7 and a draw in bits 6:0, `flag * 0x80 + x` (R42, R43, R263, R264). -/
def statusByte (flag : Bool) (x : Byte) : Byte := (if flag then 0x80#8 else 0x00#8) ||| (x &&& 0x7F#8)

/-- `s[7]`, all a decoder of a status byte computes (R105). -/
def statusFlag (s : Byte) : Bool := s.getLsbD 7

/-- `BUSY` of a WSTATUS byte: the write buffer is full (R42). -/
def busyFlag (s : Byte) : Bool := statusFlag s

/-- `AVAIL` of an RSTATUS byte: a byte is available in RDATA (R43). -/
def availFlag (s : Byte) : Bool := statusFlag s

/-- A bit drawn by the environment: bit 0 of a drawn byte (R266; notes/assumptions/7.md). -/
def drawnBit (x : Byte) : Bool := x.getLsbD 0

end Sys2Proof.Machine
end

