-- ==== Sys2Proof/Machine/Operands.lean ====
section
/-! DEFINITION. The operand forms of the micro-operations: the byte sources of `OUT` (R113), the destinations of `IN`
(R152), the response sources of `END` (R136). -/

namespace Sys2Proof.Machine

/-- `CNTM1 = (CNT - 1) mod 2^16` (R29, R104). -/
def cntM1 (c : Count) : Word16 := (c - 1).setWidth 16

/-- The value of a byte source (R113). -/
def State.byteSource (s : State) : ByteSource → Byte
  | .imm b => b
  | .regB => s.b
  | .rateHi => hiByte s.rate
  | .rateLo => loByte s.rate
  | .cntM1Lo => loByte (cntM1 s.cnt)
  | .cntM1Hi => hiByte (cntM1 s.cnt)
  | .modeByte => s.cfg.modeByte

/-- The write of an `IN` to its destination register (R152). -/
def State.setDest (s : State) (d : InDest) (x : Byte) : State :=
  match d with
  | .v => { s with v := x }
  | .maj => { s with maj := x }
  | .min => { s with min := x }

/-- The response of `END s` (R136). -/
def State.endResponse (s : State) : EndSource → Response
  | .ok => .ok
  | .v => .byte s.v
  | .ver => .version s.maj s.min
  | .acc => .accepted s.acc

/-- The DSP register an `OUT` writes (R112). -/
def outRegister : OutReg → DspReg
  | .reset => .reset
  | .wdata => .wdata

end Sys2Proof.Machine
end

