-- ==== Sys2Proof/Machine/Dsp.lean ====
section
/-! DEFINITION. The DSP as the block sees it (spec/46_environment.md): its responses to port accesses (R261 to R266),
its command parser (R270 to R273) and the meanings of its three commands. -/

namespace Sys2Proof.Machine

namespace State

/-- The machine with the DSP's state replaced. -/
def setDsp (s : State) (d : Dsp) : State := { s with dsp := d }

/-- The DSP becomes UNKNOWN, and nothing else of it changes. -/
def dspUnknown (s : State) : State := s.setDsp { s.dsp with st := .unknown }

/-! ### Port accesses -/

/-- `PortRead(RSTATUS)` (R263). -/
def readRstatus (s : State) : Byte × State :=
  if s.dsp.st = .unknown then s.draw else (statusByte s.dsp.avail s.draw.1, s.draw.2)

/-- `PortRead(WSTATUS)` (R264). -/
def readWstatus (s : State) : Byte × State :=
  if s.dsp.st = .ready then (statusByte s.dsp.busy s.draw.1, s.draw.2) else s.draw

/-- `PortRead(RDATA)` (R265): a read with data consumes it. -/
def readRdata (s : State) : Byte × State :=
  if s.dsp.st = .unknown then s.draw
  else if s.dsp.avail then (s.dsp.latch, s.setDsp { s.dsp with avail := false })
  else s.draw

/-- `PortWrite(RESET, x)` (R261). -/
def writeReset (s : State) (x : Byte) : State :=
  if x = 0x01 then
    s.setDsp { s.dsp with
      st := .held, pulseOk := false, out := [], cmd := none, sess := none, avail := false, resetReg := x }
  else if x = 0x00 ∧ s.dsp.st = .held then
    s.setDsp { s.dsp with st := if s.dsp.pulseOk then .boot else .unknown, resetReg := x }
  else s.setDsp { s.dsp with st := .unknown, resetReg := x }

/-- `Delay(d)` (R262). -/
def dspDelay (s : State) (d : Nat) : State :=
  if s.dsp.st = .held ∧ s.cfg.resetPulseMinUs ≤ d then s.setDsp { s.dsp with pulseOk := true } else s

/-! ### The commands, carried out by a READY DSP once their last byte is in -/

/-- `GET_VERSION` (R270): two drawn bytes are queued, major first. -/
def dspVersion (s : State) : State :=
  let d1 := s.draw
  let d2 := d1.2.draw
  d2.2.setDsp { d2.2.dsp with out := d2.2.dsp.out ++ [d1.1, d2.1] }

/-- `SET_OUTPUT_RATE` (R271). -/
def dspSetRate (s : State) (rate : Word16) : State := s.setDsp { s.dsp with rate := rate, cmd := none }

/-- `DMA8_OUTPUT` (R272): a session of `countM1 + 1` bytes replaces any active one. -/
def dspStart (s : State) (mode : Byte) (countM1 : Word16) : State :=
  s.setDsp { s.dsp with sess := some { mode := mode, len := countM1.toNat + 1, done := 0 }, cmd := none }

/-- `parse(x)` (R270 to R273), called with `dsp.st = READY`. A pending command byte that is neither 0x41 nor 0xC0 is
in no reachable READY state and puts the DSP in UNKNOWN (notes/assumptions/21.md). -/
def dspParse (s : State) (x : Byte) : State :=
  match s.dsp.cmd with
  | none =>
    if x = 0xE1 then s.dspVersion
    else if x = 0x41 ∨ x = 0xC0 then s.setDsp { s.dsp with cmd := some (x, []) }
    else s.dspUnknown
  | some (c, ps) =>
    if c = 0x41 then
      match ps ++ [x] with
      | [p0, p1] => s.dspSetRate (word16 p0 p1)
      | qs => s.setDsp { s.dsp with cmd := some (c, qs) }
    else if c = 0xC0 then
      match ps ++ [x] with
      | [p0, p1, p2] => s.dspStart p0 (word16 p2 p1)
      | qs => s.setDsp { s.dsp with cmd := some (c, qs) }
    else s.dspUnknown

/-- `PortWrite(WDATA, x)` (R266): taken by a READY DSP that is not busy, which may be busy afterwards; anything else
leaves the DSP UNKNOWN. -/
def writeWdata (s : State) (x : Byte) : State :=
  let s := s.setDsp { s.dsp with wdataReg := x }
  if s.dsp.st = .ready ∧ s.dsp.busy = false then
    let d := s.draw
    (d.2.setDsp { d.2.dsp with busy := drawnBit d.1 }).dspParse x
  else s.dspUnknown

/-- `PortWrite(r, x)` (R12). -/
def portWrite (s : State) (r : OutReg) (x : Byte) : State :=
  match r with
  | .reset => s.writeReset x
  | .wdata => s.writeWdata x

/-- A DSP command is carried out by a READY DSP; written to any other it leaves the DSP UNKNOWN (R182, R266, R274;
notes/assumptions/20.md). -/
def dspCommand (s : State) (f : State → State) : State := if s.dsp.st = .ready then f s else s.dspUnknown

end State

/-! ### The meanings of the DSP commands -/

/-- `GET_VERSION`, 0xE1 (R270). -/
def execGetVersion (s : State) : Result := .next (s.dspCommand State.dspVersion)

/-- `SET_OUTPUT_RATE`, 0x41 (R271). -/
def execSetOutputRate (rate : Word16) (s : State) : Result := .next (s.dspCommand (·.dspSetRate rate))

/-- `DMA8_OUTPUT`, 0xC0 (R272). -/
def execDma8Output (mode : Byte) (countM1 : Word16) (s : State) : Result :=
  .next (s.dspCommand (·.dspStart mode countM1))

end Sys2Proof.Machine
end

