-- ==== Sys2Proof/Machine/PortIo.lean ====
section
/-! DEFINITION. The port I/O primitives (spec/41_port_io.md R150 to R157) and `END` (spec/40_sequencer.md R136). -/

namespace Sys2Proof.Machine

/-- One poll of a status register whose byte read `x`: the event, then the wait's end, its count, or its limit
(R153, R154). -/
def State.poll (s : State) (r : DspReg) (x : Byte) (done : Bool) : State :=
  let s := s.emit (.pr r x)
  if done then s.advance
  else
    let s := { s with polls := s.polls + 1 }
    if State.limitReached s.cfg.pollLimit s.polls then s.raise .deviceNotResponding (.device r s.polls) else s

/-- `OUT r, s` (R151). -/
def execOut (r : OutReg) (src : ByteSource) (s : State) : Result :=
  let x := s.byteSource src
  .next ((s.portWrite r x).emit (.pw (outRegister r) x)).advance

/-- `IN RDATA -> d` (R152). -/
def execIn (d : InDest) (s : State) : Result :=
  let x := s.readRdata
  .next ((x.2.setDest d x.1).emit (.pr .rdata x.1)).advance

/-- `POLL_WR` (R153): the wait is over when `BUSY = 0`. -/
def execPollWr (s : State) : Result :=
  let x := s.readWstatus
  .next (x.2.poll .wstatus x.1 (!busyFlag x.1))

/-- `POLL_RD` (R154): the wait is over when `AVAIL = 1`. -/
def execPollRd (s : State) : Result :=
  let x := s.readRstatus
  .next (x.2.poll .rstatus x.1 (availFlag x.1))

/-- `DELAY d` (R155). -/
def execDelay (d : Nat) (s : State) : Result := .next ((s.dspDelay d).emit (.dly d)).advance

/-- `END s` (R136). -/
def execEnd (src : EndSource) (s : State) : Result := .next (s.finish (s.endResponse src))

end Sys2Proof.Machine
end

