-- ==== Sys2Proof/Machine/DmaChannel.lean ====
section
/-! DEFINITION. The DMA Channel Controller (spec/43_dma_channel.md): the acceptance of `DMA_CONFIGURE` and its nine
micro-operations. -/

namespace Sys2Proof.Machine

/-- `DMA_CONFIGURE ch, paddr, count` presented (R201, R131): `CH <- ch; PADDR <- paddr; CNT <- count`. -/
def execDmaConfigure (ch : ChanNo) (paddr : Nat) (count : Count) (s : State) : Result :=
  .next (s.present 0x06 [ch.toNat, paddr, count.toNat] fun s => { s with ch := ch, paddr := paddr, cnt := count })

/-- The test of `CHK_DMA` on channel, address and count (R202, R77). -/
def regionBad (c : Config) (ch : ChanNo) (paddr cnt : Nat) : Bool :=
  3 < ch.toNat || cnt < 1 || 65536 < cnt || 2 ^ c.paddrWidth < paddr + cnt || 65536 < paddr % 65536 + cnt

/-- `CHK_DMA` (R202). -/
def execChkDma (s : State) : Result :=
  .next <|
    if regionBad s.cfg s.ch s.paddr s.cnt.toNat then s.raise .dmaRange (.region s.ch s.paddr s.cnt) else s.advance

/-- `DMA_LOCK` (R203): taken when free, a hold while another user has it, a fault when the sequencer has it. -/
def execDmaLock (s : State) : Result :=
  .next <|
    match s.lock with
    | .free => ({ s with lock := .seq }.emit (.dma .lock)).advance
    | .other => s
    | .seq => s.raise .lockState (.lock s.lock)

/-- `DMA_UNLOCK` (R204). -/
def execDmaUnlock (s : State) : Result :=
  s.underLock fun s => .next ({ s with lock := .free }.emit (.dma .unlock)).advance

/-- `DMA_DISABLE` (R205). -/
def execDmaDisable (s : State) : Result :=
  s.underLock fun s => s.updateChannel (fun c => { c with mask := true })
    fun s => .next (s.emit (.dma (.disable s.ch))).advance

/-- `DMA_CLEAR_FF` (R206). -/
def execDmaClearFf (s : State) : Result :=
  s.underLock fun s => .next ({ s with ff := .cleared }.emit (.dma (.clrff s.ch))).advance

/-- `DMA_SET_MODE SINGLE_M2D` (R207). -/
def execDmaSetMode (s : State) : Result :=
  s.underLock fun s => s.updateChannel (fun c => { c with mode := .singleM2D })
    fun s => .next (s.emit (.dma (.mode s.ch .singleM2D))).advance

/-- `DMA_SET_ADDR` (R208): the lock test before the latch test (R307 (c)). -/
def execDmaSetAddr (s : State) : Result :=
  s.underLock fun s => s.withClearedFf fun s => s.updateChannel (fun c => { c with addr := s.paddr, xfer := 0 })
    fun s => .next ({ s with ff := .cleared }.emit (.dma (.addr s.ch s.paddr))).advance

/-- `DMA_SET_COUNT` (R209): the lock test before the latch test (R307 (c)). -/
def execDmaSetCount (s : State) : Result :=
  s.underLock fun s => s.withClearedFf fun s => s.updateChannel (fun c => { c with count := s.cnt.toNat, xfer := 0 })
    fun s => .next ({ s with ff := .cleared }.emit (.dma (.count s.ch s.cnt))).advance

/-- `DMA_ENABLE` (R210). -/
def execDmaEnable (s : State) : Result :=
  s.underLock fun s => s.updateChannel (fun c => { c with mask := false })
    fun s => .next (s.emit (.dma (.enable s.ch))).advance

end Sys2Proof.Machine
end

