-- ==== Sys2Proof/Machine/DspProtocol.lean ====
section
/-! DEFINITION. The DSP Protocol Engine (spec/42_dsp_protocol.md): the acceptance of its five requests (R131) and its
three micro-operations `BNE_V`, `LOG`, `CHK_CNT`. The listings the requests start are in Microcode.lean. -/

namespace Sys2Proof.Machine

/-- `DSP_RESET` presented (R173, R131). -/
def execDspReset (s : State) : Result := .next (s.present 0x01 [] id)

/-- `DSP_QUERY_VERSION` presented (R176, R131). -/
def execDspQueryVersion (s : State) : Result := .next (s.present 0x02 [] id)

/-- `DSP_PROGRAM_OUTPUT rate, count` presented (R178, R131): `RATE <- rate; CNT <- count`. -/
def execDspProgramOutput (rate : Word16) (count : Count) (s : State) : Result :=
  .next (s.present 0x03 [rate.toNat, count.toNat] fun s => { s with rate := rate, cnt := count })

/-- `DSP_READ_BYTE` presented (R171, R131). -/
def execDspReadByte (s : State) : Result := .next (s.present 0x04 [] id)

/-- `DSP_WRITE_BYTE b` presented (R172, R131): `B <- b`. -/
def execDspWriteByte (b : Byte) (s : State) : Result := .next (s.present 0x05 [b.toNat] fun s => { s with b := b })

/-- `BNE_V imm, t` (R174). -/
def execBneV (imm : Byte) (t : Nat) (s : State) : Result :=
  .next <|
    if s.v = imm then s.advance
    else
      let s := { s with retries := s.retries + 1 }
      if State.limitReached s.cfg.resetReadLimit s.retries then
        s.raise .deviceNotResponding (.device .rdata s.retries)
      else s.branch t

/-- `CHK_CNT` (R179). -/
def execChkCnt (s : State) : Result :=
  .next <|
    if s.cnt.toNat < 1 ∨ 65536 < s.cnt.toNat then s.raise .transferCountRange (.count s.cnt) else s.advance

/-- `LOG k` (R177). -/
def execLog (k : LogKind) (s : State) : Result :=
  .next <|
    match k with
    | .version => (s.emit (.logVersion s.maj s.min)).advance
    | .intent => ({ s with triggers := s.triggers + 1 }.emit (.logIntent s.paddr s.cnt s.rate)).advance

end Sys2Proof.Machine
end

