-- ==== Sys2Proof/Machine/Playback.lean ====
section
/-! DEFINITION. The Playback Trigger (spec/44_playback_trigger.md): the acceptance of `START_PLAYBACK`. It has no
micro-operation of its own. -/

namespace Sys2Proof.Machine

/-- `START_PLAYBACK paddr, count, rate` presented (R231, R131): `PADDR <- paddr; CNT <- count; RATE <- rate;
CH <- DMA_CH`. -/
def execStartPlayback (paddr : Nat) (count : Count) (rate : Word16) (s : State) : Result :=
  .next (s.present 0x07 [paddr, count.toNat, rate.toNat]
    fun s => { s with paddr := paddr, cnt := count, rate := rate, ch := s.cfg.dmaCh })

end Sys2Proof.Machine
end

