-- ==== Sys2Proof/Machine/Staging.lean ====
section
/-! DEFINITION. The Staging Buffer Manager (spec/45_staging_buffer.md): the acceptance of `SUBMIT` and its six
micro-operations. -/

namespace Sys2Proof.Machine

/-- `SUBMIT k, src` presented (R241, R131): `K <- k; SRC <- src`. -/
def execSubmit (k : Nat) (src : List Byte) (s : State) : Result :=
  .next (s.present 0x08 (k :: src.map BitVec.toNat) fun s => { s with k := k, src := src })

/-- `CHK_SPACE` (R242). -/
def execChkSpace (s : State) : Result :=
  .next <|
    if s.cfg.cap ≤ s.offset then s.finish .outOfSpace
    else { s with acc := Nat.min s.k (s.cfg.cap - s.offset), idx := 0 }.advance

/-- The address `COPY` stores its next byte to: `BUF_PADDR + OFFSET + I` (R243). -/
def copyAddress (s : State) : Nat := s.cfg.bufPaddr + s.offset + s.idx

/-- `COPY` (R243): one byte per step, then a hold until the last is copied. -/
def execCopy (s : State) : Result :=
  if s.idx < s.acc then
    match s.src[s.idx]? with
    | none => .fault (.sourceByte s.idx)
    | some x =>
      if s.inMemory (copyAddress s) then
        let s := (s.memWrite (copyAddress s) x).emit (.bufw (s.offset + s.idx) x)
        let s := { s with idx := s.idx + 1 }
        .next (if s.idx = s.acc then s.advance else s)
      else .fault (.physicalAddress (copyAddress s))
  else .next s.advance

/-- `ADV` (R244). -/
def execAdv (s : State) : Result := .next { s with offset := s.offset + s.acc }.advance

/-- `BLT_FULL t` (R245). -/
def execBltFull (t : Nat) (s : State) : Result := .next (if s.offset < s.cfg.cap then s.branch t else s.advance)

/-- `LOAD_TRIG` (R246). -/
def execLoadTrig (s : State) : Result :=
  .next { s with
    paddr := s.cfg.bufPaddr, cnt := BitVec.ofNat 17 s.cfg.cap, rate := s.cfg.sampleRate, ch := s.cfg.dmaCh }.advance

/-- `OFS_CLR` (R247). -/
def execOfsClr (s : State) : Result := .next { s with offset := 0 }.advance

end Sys2Proof.Machine
end

