-- ==== Sys2Proof/Machine/Dispatch.lean ====
section
/-! DEFINITION. One arm per row of spec/opcode_table.json. -/

namespace Sys2Proof.Machine

def exec (i : Instr) (s : State) : Host.Outcome State Fault Refusal :=
  match i with
  -- requests: what presenting one does (R131 to R134)
  | .dspReset => Sys2Proof.Machine.execDspReset s
  | .dspQueryVersion => Sys2Proof.Machine.execDspQueryVersion s
  | .dspProgramOutput rate count => Sys2Proof.Machine.execDspProgramOutput rate count s
  | .dspReadByte => Sys2Proof.Machine.execDspReadByte s
  | .dspWriteByte b => Sys2Proof.Machine.execDspWriteByte b s
  | .dmaConfigure ch paddr count => Sys2Proof.Machine.execDmaConfigure ch paddr count s
  | .startPlayback paddr count rate => Sys2Proof.Machine.execStartPlayback paddr count rate s
  | .submit k src => Sys2Proof.Machine.execSubmit k src s
  -- micro-operations: what the sequencer's step does (R135)
  | .out r src => Sys2Proof.Machine.execOut r src s
  | .inp d => Sys2Proof.Machine.execIn d s
  | .pollWr => Sys2Proof.Machine.execPollWr s
  | .pollRd => Sys2Proof.Machine.execPollRd s
  | .delay d => Sys2Proof.Machine.execDelay d s
  | .endOp src => Sys2Proof.Machine.execEnd src s
  | .bneV imm t => Sys2Proof.Machine.execBneV imm t s
  | .chkCnt => Sys2Proof.Machine.execChkCnt s
  | .log k => Sys2Proof.Machine.execLog k s
  | .chkDma => Sys2Proof.Machine.execChkDma s
  | .dmaLock => Sys2Proof.Machine.execDmaLock s
  | .dmaUnlock => Sys2Proof.Machine.execDmaUnlock s
  | .dmaDisable => Sys2Proof.Machine.execDmaDisable s
  | .dmaClearFf => Sys2Proof.Machine.execDmaClearFf s
  | .dmaSetMode => Sys2Proof.Machine.execDmaSetMode s
  | .dmaSetAddr => Sys2Proof.Machine.execDmaSetAddr s
  | .dmaSetCount => Sys2Proof.Machine.execDmaSetCount s
  | .dmaEnable => Sys2Proof.Machine.execDmaEnable s
  | .chkSpace => Sys2Proof.Machine.execChkSpace s
  | .copy => Sys2Proof.Machine.execCopy s
  | .adv => Sys2Proof.Machine.execAdv s
  | .bltFull t => Sys2Proof.Machine.execBltFull t s
  | .loadTrig => Sys2Proof.Machine.execLoadTrig s
  | .ofsClr => Sys2Proof.Machine.execOfsClr s
  -- DSP commands: what a DSP does with one (R270 to R272)
  | .getVersion => Sys2Proof.Machine.execGetVersion s
  | .setOutputRate rate => Sys2Proof.Machine.execSetOutputRate rate s
  | .dma8Output mode countM1 => Sys2Proof.Machine.execDma8Output mode countM1 s

end Sys2Proof.Machine
end

