-- ==== Sys2Proof/Machine/Environment.lean ====
section
/-! DEFINITION. The steps the other agents take of their own (spec/46_environment.md): the DSP (R267 to R269, R274,
R276), the DMA transfer (R275, R277, R278) and other DMA users (R282). A move its rule does not enable changes nothing
(notes/assumptions/8.md). -/

namespace Sys2Proof.Machine

/-- An armed channel: enabled, with bytes left (R275). -/
def Channel.armed (c : Channel) : Bool := !c.mask && decide (c.xfer < c.count)

/-- The registers of a channel hold values of their types (R48, R49). -/
def Channel.typed (cfg : Config) (c : Channel) : Bool :=
  decide (c.addr < 2 ^ cfg.paddrWidth) && decide (1 ≤ c.count) && decide (c.count ≤ 65536) && decide (c.xfer ≤ c.count)

/-- The components of a session hold values of their types (R55). -/
def Session.typed (x : Session) : Bool := decide (1 ≤ x.len) && decide (x.len ≤ 65536) && decide (x.done ≤ x.len)

/-- A session that has taken one more sample: over when that was the last (R275 to R277). -/
def Session.next (x : Session) : Option Session :=
  if x.done + 1 = x.len then none else some { x with done := x.done + 1 }

/-- A channel that has moved one more byte: masked at terminal count (R275, R278). -/
def Channel.moved (c : Channel) : Channel :=
  { c with xfer := c.xfer + 1, mask := if c.xfer + 1 = c.count then true else c.mask }

namespace State

/-- A session is active with samples left (R275, R276). -/
def sessionActive (s : State) : Bool :=
  match s.dsp.sess with
  | some x => decide (x.done < x.len)
  | none => false

/-- The DSP's session after one more sample; a session of an UNKNOWN DSP with none left stays
(notes/assumptions/23.md). -/
def stepSession (s : State) : State :=
  match s.dsp.sess with
  | some x => if x.done < x.len then s.setDsp { s.dsp with sess := x.next } else s
  | none => s

/-- The DSP may request a byte: READY with an active session (R275), or UNKNOWN (R274). -/
def mayRequest (s : State) : Bool :=
  match s.dsp.st with
  | .ready => s.sessionActive
  | .unknown => true
  | .held | .boot => false

/-- The transfer of one byte over channel `c` in state registers `r` (R275): read, event, count, session, terminal
count. -/
def deliver (s : State) (ch : ChanNo) (r : Channel) : Result :=
  let a := r.addr + r.xfer
  if s.inMemory a then
    let x := s.memRead a
    .next (((x.2.emit (.xfer ch a x.1)).setChannel ch r.moved).stepSession)
  else .fault (.physicalAddress a)

/-- The transfer step (R275), on the channel the DSP is wired to (R56). The transfer reads `MODE` (R47): it moves the
byte in single-cycle memory-to-device mode, and the spec gives an armed channel in another mode no transfer
(notes/assumptions/22.md). -/
def dspTransfer (s : State) : Result :=
  match s.channel? s.cfg.dmaCh with
  | none => .fault (.dmaChannel s.cfg.dmaCh)
  | some r =>
    if s.mayRequest && r.armed then
      if r.mode = .singleM2D then s.deliver s.cfg.dmaCh r else .fault (.channelMode s.cfg.dmaCh)
    else .next s

/-- The starved sample (R276): READY, an active session, channel `DMA_CH` not armed. -/
def dspStarve (s : State) : Result :=
  match s.channel? s.cfg.dmaCh with
  | none => .fault (.dmaChannel s.cfg.dmaCh)
  | some r =>
    .next (if s.dsp.st = .ready ∧ s.sessionActive = true ∧ r.armed = false then (s.emit .underrun).stepSession else s)

/-- A step of the DSP's own (R260). In UNKNOWN, R274 lets one step set the components and take the transfer step too; here
these are two moves, `anything` and `transfer` (DESIGN CHOICE, safe: notes/assumptions/28.md). -/
def dspMove (s : State) : DspMove → Result
  | .nothing => .next s
  | .presentNoise x =>
    .next (if s.dsp.st = .boot ∧ s.dsp.avail = false ∧ x ≠ 0xAA then
      s.setDsp { s.dsp with latch := x, avail := true } else s)
  | .presentReady =>
    .next (if s.dsp.st = .boot ∧ s.dsp.avail = false then
      s.setDsp { s.dsp with
        latch := 0xAA, avail := true, st := .ready, busy := false, cmd := none, out := [], sess := none } else s)
  | .clearBusy => .next (if s.dsp.st = .ready then s.setDsp { s.dsp with busy := false } else s)
  | .presentOutput =>
    .next (match s.dsp.out with
      | x :: xs =>
        if s.dsp.st = .ready ∧ s.dsp.avail = false then
          s.setDsp { s.dsp with latch := x, out := xs, avail := true } else s
      | [] => s)
  | .anything avail latch busy out cmd rate sess =>
    .next (if s.dsp.st = .unknown ∧ sess.all Session.typed = true then
      s.setDsp { s.dsp with
        avail := avail, latch := latch, busy := busy, out := out, cmd := cmd, rate := rate, sess := sess } else s)
  | .transfer => s.dspTransfer
  | .starve => s.dspStarve

/-- A step of another DMA user (R282): it never writes the lock while the sequencer has it, never the latch or a
channel without the lock, and never channel `DMA_CH`. -/
def userMove (s : State) : UserMove → State
  | .acquire => if s.lock = .free then { s with lock := .other } else s
  | .configure ff ch regs =>
    if s.lock = .other ∧ ch ≠ s.cfg.dmaCh ∧ regs.typed s.cfg = true then { s with ff := ff }.setChannel ch regs else s
  | .release => if s.lock = .other then { s with lock := .free } else s

end State

end Sys2Proof.Machine
end

