-- ==== Sys2Proof/WellFormed.lean ====
section
/-! DEFINITION. The well-formedness of an instruction under a block's parameters: the ranges of the operand fields
that their Lean types do not already keep (spec/30_encoding.md R109, R112). -/

namespace Sys2Proof

/-- `paddr` is `PADDR_WIDTH` bits; `src` is exactly `k` bytes (R109); `d` of `DELAY` is `RESET_PULSE_US`; a branch
target is a `UPC` index, 0 to 31 (R24, R112). Every other field is in range by its type. -/
def Instr.wf (c : Config) : Instr → Bool
  | .dmaConfigure _ paddr _ => paddr < 2 ^ c.paddrWidth
  | .startPlayback paddr _ _ => paddr < 2 ^ c.paddrWidth
  | .submit k src => src.length == k
  | .delay d => d == c.resetPulseUs
  | .bneV _ t => t < 32
  | .bltFull t => t < 32
  | .dspReset | .dspQueryVersion | .dspProgramOutput _ _ | .dspReadByte | .dspWriteByte _ | .out _ _ | .inp _ | .pollWr
  | .pollRd | .endOp _ | .chkCnt | .log _ | .chkDma | .dmaLock | .dmaUnlock | .dmaDisable | .dmaClearFf | .dmaSetMode
  | .dmaSetAddr | .dmaSetCount | .dmaEnable | .chkSpace | .copy | .adv | .loadTrig | .ofsClr | .getVersion
  | .setOutputRate _ | .dma8Output _ _ => true

end Sys2Proof
end

