-- ==== Sys2Proof/Machine/Agents.lean ====
section
/-! DEFINITION. The turns of the agents (R20): the sequencer fetches and runs one micro-operation, the host presents
one request, the DSP and the other DMA users take a step of their own; and what an opcode-table word needs to be the
next instruction that runs. -/

namespace Sys2Proof.Machine

namespace State

/-- The micro-operation fetch: the words at (`SEL`, `UPC`) of the microcode store (R23, R24, R135). -/
def fetch (s : State) : Option (List Nat) := s.ucode.at s.sel s.upc

/-- The micro-operation the fetched words are. -/
def fetchInstr (s : State) : Option Instr :=
  match s.fetch with
  | some ws => match decodeMicro ws with
    | .ok i => some i
    | .error _ => none
  | none => none

/-- The sequencer's turn (R135): one micro-operation while BUSY, no step otherwise. -/
def sequencerTurn (s : State) : Result :=
  if s.seq = .busy then
    match s.fetchInstr with
    | some i => exec i s
    | none => .refused (.noMicroOperation s.sel s.upc)
  else .next s

/-- The host's turn: a request record presented (R131 to R134). Words that are no request record at all, such as an
operand outside its type, cannot be presented (R109), and nothing happens (notes/assumptions/8.md). -/
def hostTurn (s : State) (words : List Nat) : Result :=
  match decodeRequest words with
  | .ok i => if i.wf s.cfg then exec i s else .next s
  | .error (.reservedSelector sel) => .next (s.presentReserved sel)
  | .error _ => .next s

/-- The turn of whichever agent moves next. -/
def runTurn (s : State) : Turn → Result
  | .sequencer => s.sequencerTurn
  | .host words => s.hostTurn words
  | .dsp m => s.dspMove m
  | .otherUser m => .next (s.userMove m)

/-! ### Making an instruction the next to run -/

/-- A micro-operation put where the sequencer, given the next turn, fetches it. -/
def withMicro (s : State) (i : Instr) : State :=
  { s with ucode := s.ucode.put s.sel s.upc (encode i), seq := .busy, turns := .sequencer :: s.turns }

/-- A request made the host's next turn. -/
def withRequest (s : State) (i : Instr) : State := { s with turns := .host (encode i) :: s.turns }

/-- The DSP as it is when the bytes of a command but the last have been taken: READY, not busy, `cmd` holding them. -/
def dspAwaiting (d : Dsp) (taken : List Byte) : Dsp :=
  { d with
    st := .ready, busy := false
    cmd := match taken with
      | [] => none
      | c :: ps => some (c, ps) }

/-- A DSP command made the next to run: its last byte is what the sequencer's next micro-operation writes to WDATA,
to a READY DSP that has taken the bytes before it. -/
def withCommand (s : State) (i : Instr) : State :=
  let bytes := (encode i).map (BitVec.ofNat 8)
  let last := bytes.getLast?.getD 0
  let s := s.withMicro (.out .wdata (.imm last))
  s.setDsp (dspAwaiting s.dsp bytes.dropLast)

/-- An instruction made the next to run, by its level. -/
def withInstr (s : State) (i : Instr) : State :=
  match i.level with
  | .request => s.withRequest i
  | .micro => s.withMicro i
  | .dsp => s.withCommand i

end State

end Sys2Proof.Machine
end

