-- ==== Sys2Proof/Machine/Step.lean ====
section
/-! DEFINITION. One step of the machine: the agent whose turn it is takes its step (R20, R85, R135, R260). -/

namespace Sys2Proof.Machine

/-- One step: the next turn is taken from the interleaving and run. -/
def step (s : State) : Host.Outcome State Fault Refusal := s.takeTurn.2.runTurn s.takeTurn.1

/-- The state in which the next step runs the instruction of an opcode-table word (notes/assumptions/18.md). -/
def State.withFetchWord (s : State) (nbits w : Nat) : State :=
  match decodeTableWord nbits w with
  | some i => s.withInstr i
  | none => s

end Sys2Proof.Machine
end

