-- ==== Sys2Proof/Safety.lean ====
section
/-! DEFINITION. The terms the claims are stated in: a built block, the micro-operation about to run, what a safe state
is (the invariants of spec/10_state.md to 46_environment.md), how a run ends (spec/40_sequencer.md R141), and what a
fair run is (spec/46_environment.md R281). -/

namespace Sys2Proof.Machine.State

/-- A built block: parameters that pass the check of R8, and the fixed microcode (R91, R135). -/
def Built (s : State) : Prop := s.cfg.ok = true ∧ s.ucode = Microcode.rom s.cfg

/-- The micro-operation at (`SEL`, `UPC`): `UCODE(SEL)[UPC]` (R135). -/
def current (s : State) : Option Instr := (Microcode.listing s.cfg s.sel)[s.upc]?

/-- A "ready DSP" as spec/95_test_vectors.md uses the words. -/
def ReadyDsp (d : Dsp) : Prop :=
  d.st = .ready ∧ d.cmd = none ∧ d.out = [] ∧ d.avail = false ∧ d.busy = false ∧ d.sess = none

/-- The block is built and, while BUSY, stands at an entry of a listing (R24, R138). -/
structure Control (s : State) : Prop where
  built : s.Built
  at_entry : s.seq = .busy → s.current.isSome = true

/-- Where a `SUBMIT` stands, what is true of the buffer's fill (R241 to R247). -/
def SubmitAt (s : State) : Prop :=
  s.src.length = s.k ∧
  (s.upc = 0 ∨ s.upc = 31 → s.offset < s.cfg.cap) ∧
  (s.upc = 1 → s.offset < s.cfg.cap ∧ s.offset + s.acc ≤ s.cfg.cap ∧ s.acc ≤ s.k) ∧
  (s.upc = 2 → s.offset + s.acc ≤ s.cfg.cap) ∧
  (4 ≤ s.upc ∧ s.upc ≤ 30 → s.offset = s.cfg.cap)

/-- The staging buffer's invariant: `OFFSET ≤ CAP` always (R249), and `OFFSET < CAP` whenever no `SUBMIT` is between
its `ADV` and its `OFS_CLR` (R250). -/
structure Staging (s : State) : Prop where
  offset_le : s.offset ≤ s.cfg.cap
  idle_lt : s.seq = .idle → s.offset < s.cfg.cap
  other_lt : s.seq = .busy → s.sel ≠ 0x08 → s.offset < s.cfg.cap
  submit : s.seq = .busy → s.sel = 0x08 → s.SubmitAt

/-- The micro-operations between a `DMA_LOCK` that advanced and the end of its `DMA_UNLOCK` (R211, R213). -/
def underLockOp : Option Instr → Bool
  | some .dmaDisable | some .dmaClearFf | some .dmaSetMode | some .dmaSetAddr | some .dmaSetCount | some .dmaEnable
  | some .dmaUnlock => true
  | _ => false

/-- The lock's discipline: the sequencer holds it exactly at those micro-operations, and the flip-flop is cleared when
the address and the count are set (R211, R212, R213). -/
structure LockHeld (s : State) : Prop where
  busy_iff : s.seq = .busy → (s.lock = .seq ↔ underLockOp s.current = true)
  idle_ne : s.seq = .idle → s.lock ≠ .seq
  ff_cleared : s.seq = .busy → s.current = some .dmaSetMode ∨ s.current = some .dmaSetAddr
    ∨ s.current = some .dmaSetCount → s.ff = .cleared

/-- The handshake with the DSP: at an `OUT WDATA` a READY DSP is not busy, and at an `IN` a DSP that is not UNKNOWN has
a byte (R156). -/
structure Handshake (s : State) : Prop where
  out_not_busy : s.seq = .busy → (∃ src, s.current = some (.out .wdata src)) → s.dsp.st = .ready → s.dsp.busy = false
  in_available : s.seq = .busy → (∃ d, s.current = some (.inp d)) → s.dsp.st ≠ .unknown → s.dsp.avail = true
  held_empty : s.dsp.st = .held → s.dsp.avail = false

/-- The micro-operations that follow a `CHK_DMA` that passed, up to `DMA_UNLOCK`. -/
def checkedOp : Option Instr → Bool
  | some .dmaLock => true
  | some (.log .intent) => true
  | i => underLockOp i

/-- The micro-operations while the channel is being reconfigured (R214). -/
def reconfiguringOp : Option Instr → Bool
  | some .dmaClearFf | some .dmaSetMode | some .dmaSetAddr | some .dmaSetCount | some .dmaEnable => true
  | _ => false

/-- What a channel that may move bytes is programmed with: a region inside physical memory and inside one
64 KiB-aligned block (R77). -/
def regionInside (s : State) (addr count : Nat) : Prop :=
  addr + count ≤ 2 ^ s.cfg.paddrWidth ∧ addr % 65536 + count ≤ 65536

/-- The DMA region's invariant: the region in `CH`, `PADDR`, `CNT` has passed its check while the channel is programmed
(R202), the channel stays masked while it is reconfigured (R214), its mode, address and count are set when it is
enabled, and an enabled channel `DMA_CH` is in single-cycle memory-to-device mode (R47, R275) with a region R77 admits. -/
structure Region (s : State) : Prop where
  checked : s.seq = .busy → checkedOp s.current = true →
    s.ch.toNat ≤ 3 ∧ 1 ≤ s.cnt.toNat ∧ s.cnt.toNat ≤ 65536 ∧ s.regionInside s.paddr s.cnt.toNat
  masked : s.seq = .busy → reconfiguringOp s.current = true → ∀ c, s.channel? s.ch = some c → c.mask = true
  mode_set : s.seq = .busy → s.current = some .dmaSetAddr ∨ s.current = some .dmaSetCount
    ∨ s.current = some .dmaEnable → ∀ c, s.channel? s.ch = some c → c.mode = .singleM2D
  addr_set : s.seq = .busy → s.current = some .dmaSetCount ∨ s.current = some .dmaEnable →
    ∀ c, s.channel? s.ch = some c → c.addr = s.paddr
  count_set : s.seq = .busy → s.current = some .dmaEnable →
    ∀ c, s.channel? s.ch = some c → c.count = s.cnt.toNat
  enabled : ∀ c, s.channel? s.cfg.dmaCh = some c → c.mask = false →
    c.mode = .singleM2D ∧ s.regionInside c.addr c.count

/-- The safe states: every invariant a built block keeps under every interleaving. -/
structure Safe (s : State) : Prop where
  control : s.Control
  staging : s.Staging
  lockHeld : s.LockHeld
  handshake : s.Handshake
  region : s.Region

/-- The registers whose Lean types do not keep them in the range the spec gives them, and every byte of memory, are in
it: `PADDR` (R30), `ACC` and `I` (R32), `ADDR` and `COUNT` (R48), `XFER` (R49), a session (R55), physical addresses
(R70); and memory is in its canonical form. (`UPC` and `OFFSET` are kept in theirs by `Control` and `Staging`.) -/
structure InWidth (s : State) : Prop where
  mem_wf : s.mem.wf
  mem_reset_wf : s.memReset.wf
  mem_inside : ∀ a x, s.byteAt a = some x → a < 2 ^ s.cfg.paddrWidth
  paddr_lt : s.paddr < 2 ^ s.cfg.paddrWidth
  acc_le : s.acc ≤ s.cfg.cap
  idx_le : s.idx ≤ s.acc
  channels : ∀ ch c, s.channel? ch = some c →
    c.addr < 2 ^ s.cfg.paddrWidth ∧ 1 ≤ c.count ∧ c.count ≤ 65536 ∧ c.xfer ≤ c.count
  session : ∀ x, s.dsp.sess = some x → x.typed = true

/-- The triggers the trace shows: its `LOG(INTENT, ·)` events (R52, R177). -/
def intents (tr : List Event) : Nat :=
  (tr.filter fun e => match e with
    | .logIntent _ _ _ => true
    | _ => false).length

/-- Everything a block request or micro-operation could change besides the devices, the memory and the trace stays: the
block's own registers (R22 to R35, R51, R52), with the parameters and the microcode. -/
def SameRegisters (s t : State) : Prop :=
  t = { s with
    mem := t.mem, memReset := t.memReset, dsp := t.dsp, channels := t.channels, ff := t.ff, lock := t.lock, trace := t.trace,
    turns := t.turns, draws := t.draws, tick := t.tick }

/-! ### The end of a run (R141) -/

/-- The events that say how far the host's requests have come: `REQ` at acceptance and `RSP` at completion (R58). -/
def handshakes (es : List Event) : List Event :=
  es.filter fun e => match e with
    | .req _ _ | .rsp _ => true
    | _ => false

/-- Each request of a host program is accepted, with its operands, once the one before it is complete, and the last is
complete too. (A request completes in `end(r)`, which emits RSP: `END`, or `CHK_SPACE` with `OUT_OF_SPACE`, R137.) -/
def answered : List Instr → List Event → Bool
  | [], es => es.isEmpty
  | i :: p, .req sel ops :: .rsp _ :: es => sel == i.code && ops == i.operands && answered p es
  | _ :: _, _ => false

/-- The host program `p` run from `s` has ended well at `t`: the host has presented its last request, that request has
completed, `SEQ = IDLE` and `FAULT = NONE`. It says nothing of playback, and a run of no request at all is none. -/
def EndsWell (p : List Instr) (s t : State) : Prop :=
  p ≠ [] ∧ (∃ es, t.trace = s.trace ++ es ∧ answered p (handshakes es) = true) ∧ t.seq = .idle ∧ t.fault = none

/-- A run that has come to `t` has ended badly. -/
def EndsBadly (t : State) : Prop := t.seq = .halted

/-! ### Plays and fairness (R20, R281) -/

/-- An endless run: `τ n` is the turn the interleaving gives at step `n`, and `r n` the machine before it. -/
def Play (r : Nat → State) (τ : Nat → Turn) : Prop :=
  ∀ n, step { r n with turns := [τ n] } = .next (r (n + 1))

/-- A run in which the sequencer holds for ever at one micro-operation: it has not ended (R140, R141). -/
def HoldsForEver (r : Nat → State) : Prop :=
  ∃ n, ∀ m, n ≤ m → (r m).seq = .busy ∧ (r m).sel = (r n).sel ∧ (r m).upc = (r n).upc

/-- The turn is a boot step that presents a noise byte (R267). -/
def presentsNoise (s : State) : Turn → Bool
  | .dsp (.presentNoise x) => s.dsp.st == .boot && !s.dsp.avail && x != 0xAA
  | _ => false

/-- Channel `DMA_CH` is armed (R275, R276). -/
def dmaArmed (s : State) : Bool := (s.channel? s.cfg.dmaCh).any Channel.armed

/-- The turn is a step of R275 where channel `DMA_CH` is armed, and of R276 where it is not: there the DSP plays a
sample without data or does nothing. -/
def servesSession (s : State) : Turn → Bool
  | .dsp .transfer => s.dmaArmed
  | .dsp .starve | .dsp .nothing => !s.dmaArmed
  | _ => false

/-- A READY DSP has an active session with samples left (R275). -/
def playing (s : State) : Bool := s.dsp.st == .ready && s.sessionActive

/-- The fairness of R281, the only liveness a claim may assume: its clauses (a) to (f). A DSP in HELD or UNKNOWN has no
obligation. -/
structure Fair (r : Nat → State) (τ : Nat → Turn) : Prop where
  /-- (a) while BUSY the sequencer eventually takes its step -/
  sequencer : ∀ n, (r n).seq = .busy → ∃ m, n ≤ m ∧ ((r m).seq ≠ .busy ∨ τ m = .sequencer)
  /-- (b) a DSP that stays in BOOT presents only finitely many noise bytes -/
  noise : ∀ n, (∀ m, n ≤ m → (r m).dsp.st = .boot) → ∃ k, ∀ m, k ≤ m → presentsNoise (r m) (τ m) = false
  /-- (b) a DSP in BOOT with no byte available eventually presents one -/
  boot : ∀ n, (r n).dsp.st = .boot → (r n).dsp.avail = false →
    ∃ m, n ≤ m ∧ ((r m).dsp.st ≠ .boot ∨ (r m).dsp.avail = true)
  /-- (c) a READY DSP that is busy is eventually not -/
  busy : ∀ n, (r n).dsp.st = .ready → (r n).dsp.busy = true →
    ∃ m, n ≤ m ∧ ((r m).dsp.st ≠ .ready ∨ (r m).dsp.busy = false)
  /-- (d) a READY DSP with bytes queued and none available eventually presents the next -/
  output : ∀ n, (r n).dsp.st = .ready → (r n).dsp.avail = false → (r n).dsp.out ≠ [] →
    ∃ m, n ≤ m ∧ ((r m).dsp.st ≠ .ready ∨ (r m).dsp.avail = true)
  /-- (e) while a session is active in READY the DSP eventually takes a step of R275 or R276 -/
  session : ∀ n, (r n).playing = true → ∃ m, n ≤ m ∧ ((r m).playing = false ∨ servesSession (r m) (τ m) = true)
  /-- (f) a lock another user holds is eventually released -/
  lock : ∀ n, (r n).lock = .other → ∃ m, n ≤ m ∧ (r m).lock ≠ .other

end Sys2Proof.Machine.State
end

