-- ==== Sys2Proof/Certificates/Slice0/Obligations.lean ====
section
/-! DEFINITION. The statements for the provers: what the rules of spec/ say a request, a micro-operation, a DSP command,
another agent and the machine do. A clause `t = { s with a := t.a, … }` says the frame: every field of the state but
the ones named, memory with them, is as it was, so every byte reads as before. -/

open Sys2Proof Sys2Proof.Machine

/-! ### Encodings -/

/-- Decoding the words of an instruction gives it back, at its level, with every operand at every value its field
admits (R101, R110, R112; the layout of the words is the model's, notes/assumptions/4.md). -/
def Obligations.DecodeOfEncode : Prop :=
  ∀ (c : Config) (i : Instr), i.wf c = true → decode i.level (encode i) = .ok i

/-- Every list of words has at most one meaning at a level: what decodes is the encoding of what it decodes to. The
layout of the words, the numbering of enumerated fields and the reading of a code at a level are the model's choice
(notes/assumptions/4.md, notes/assumptions/5.md). -/
def Obligations.EncodeOfDecode : Prop :=
  ∀ (l : Level) (ws : List Nat) (i : Instr), decode l ws = .ok i → encode i = ws ∧ i.level = l

/-- Words written out from the spec's tables decode to the instruction they stand for: R117's example, one request
with every operand, micro-operations of each family, and the three commands of R101 with the bytes of R104's
example. -/
def Obligations.WrittenWordsDecode : Prop :=
  decode .request [0x03, 0x2B11, 0x10000] = .ok (.dspProgramOutput 11025 65536) ∧
  decode .request [0x06, 1, 0x20000, 65536] = .ok (.dmaConfigure 1 0x20000 65536) ∧
  decode .request [0x08, 3, 0x10, 0x20, 0x30] = .ok (.submit 3 [0x10, 0x20, 0x30]) ∧
  decode .micro [0x12] = .ok .pollWr ∧
  decode .micro [0x20, 0xAA, 3] = .ok (.bneV 0xAA 3) ∧
  decode .micro [0x36] = .ok .dmaSetAddr ∧
  decode .micro [0x41] = .ok .copy ∧
  decode .dsp [0xE1] = .ok .getVersion ∧
  decode .dsp [0x41, 0x2B, 0x11] = .ok (.setOutputRate 11025) ∧
  decode .dsp [0xC0, 0x00, 0xFF, 0xFF] = .ok (.dma8Output 0x00 65535)

/-- The registers at the addresses of R38 and R71: in a configuration R7 and R8 admit, the access direction and the address
`BASE_IO + OFF_X` select register X, even where two registers share an address. -/
def Obligations.AddressSelectsRegister : Prop :=
  ∀ c : Config, c.ok = true →
    (∀ r ∈ [DspReg.rdata, .wstatus, .rstatus], c.readRegister (c.address r) = some r) ∧
    (∀ r ∈ [DspReg.reset, .wdata], c.writeRegister (c.address r) = some r)

/-! ### The step -/

/-- The sequencer's turn runs the micro-operation its words decode to: step is exec of it, once the turn is taken
(R135; the turns are the model's, notes/assumptions/6.md). -/
def Obligations.StepRunsMicroOperation : Prop :=
  ∀ (s : State) (ts : List Turn) (ws : List Nat) (i : Instr),
    s.turns = .sequencer :: ts → s.seq = .busy → s.fetch = some ws → decode .micro ws = .ok i →
    step s = exec i { s with turns := ts }

/-- The host's turn runs the request its words decode to: step is exec of it, once the turn is taken (R131). -/
def Obligations.StepRunsRequest : Prop :=
  ∀ (s : State) (ts : List Turn) (ws : List Nat) (i : Instr),
    s.turns = .host ws :: ts → decode .request ws = .ok i → i.wf s.cfg = true →
    step s = exec i { s with turns := ts }

/-- Micro-step (R135): while BUSY the sequencer of a built block executes `UCODE(SEL)[UPC]` in its turn; while IDLE or
HALTED it has no step, and a turn given to it passes (that the turn is then taken is the model's,
notes/assumptions/8.md). -/
def Obligations.BuiltBlockRunsListing : Prop :=
  ∀ (s : State) (ts : List Turn), s.Built → s.turns = .sequencer :: ts →
    (∀ i, s.seq = .busy → s.current = some i → step s = exec i { s with turns := ts }) ∧
    (s.seq ≠ .busy → step s = .next { s with turns := ts })

/-- The DSP carries out a command in the step of the `OUT WDATA` that writes its last byte (R260, R266): with the bytes
before it taken, that `OUT` is exec of the command on the DSP that has taken the byte and drawn its busy bit, then the
event and the advance of R151. That a DSP command is read as an instruction is the model's choice
(notes/assumptions/20.md), and so are the drawing of the busy bit before the command's own draws and its being bit 0 of
a drawn byte (notes/assumptions/7.md). -/
def Obligations.OutRunsCompletedCommand : Prop :=
  ∀ (s : State) (src : ByteSource) (i : Instr),
    s.dsp.st = .ready → s.dsp.busy = false →
    (i = .getVersion ∧ s.dsp.cmd = none ∧ s.byteSource src = 0xE1
      ∨ (∃ r, i = .setOutputRate r ∧ s.dsp.cmd = some (0x41, [hiByte r]) ∧ s.byteSource src = loByte r)
      ∨ (∃ m n, i = .dma8Output m n ∧ s.dsp.cmd = some (0xC0, [m, loByte n]) ∧ s.byteSource src = hiByte n)) →
    ∃ u, exec i { s.draw.2 with
        dsp := { s.dsp with wdataReg := s.byteSource src, busy := drawnBit s.draw.1 } } = .next u ∧
      exec (.out .wdata src) s = .next ((u.emit (.pw .wdata (s.byteSource src))).advance)

/-! ### Block reset -/

/-- The values the spec states for block reset hold of a block built with any admitted parameters (R61 to R66; the
values of unwritten registers are the model's and are not stated here). -/
def Obligations.ResetValues : Prop :=
  ∀ c : Config, c.ok = true →
    let s := State.resetWith c
    s.cfg = c ∧ s.seq = .idle ∧ s.polls = 0 ∧ s.retries = 0 ∧ s.resp = .none ∧ s.fault = none ∧ s.triggers = 0 ∧
    s.trace = [] ∧ s.dsp.st = .unknown ∧ s.dsp.pulseOk = false ∧ s.lock = .free ∧ s.ff = .unknown ∧ s.offset = 0 ∧
    (∃ r, s.channel? c.dmaCh = some r ∧ r.mask = true) ∧
    (∀ sel n, s.ucode.at sel n = ((Microcode.listing c sel)[n]?).map encode)

/-- A block right after reset is in a safe state, with the registers and the memory that `InWidth` names in their
ranges, whatever its admitted parameters. The spec leaves `PADDR`, `ACC` and `I`, the channels' `ADDR`, `COUNT` and
`XFER` and the DSP's session unwritten or any at reset (R61, R63, R64): the ranges are those of the values the model
chooses for them (notes/assumptions/9.md, notes/assumptions/11.md, notes/assumptions/12.md). -/
def Obligations.ResetIsSafe : Prop :=
  ∀ c : Config, c.ok = true →
    (State.resetWith c).Safe ∧ (State.resetWith c).InWidth ∧
    (State.resetWith c).triggers = State.intents (State.resetWith c).trace

/-! ### Presenting a request -/

/-- Acceptance (R131): presented while SEQ is IDLE, each of the eight requests latches its operands, sets `SEL`, `UPC`,
`POLLS`, `RETRIES`, `RESP` and `SEQ`, emits its REQ event, and changes nothing else. -/
def Obligations.RequestsAccepted : Prop :=
  ∀ s : State, s.seq = .idle →
    (∃ t, exec .dspReset s = .next t ∧ t = { s with
      sel := 0x01, upc := 0, polls := 0, retries := 0, resp := .none, seq := .busy
      trace := s.trace ++ [.req 0x01 []] }) ∧
    (∃ t, exec .dspQueryVersion s = .next t ∧ t = { s with
      sel := 0x02, upc := 0, polls := 0, retries := 0, resp := .none, seq := .busy
      trace := s.trace ++ [.req 0x02 []] }) ∧
    (∀ rate count, ∃ t, exec (.dspProgramOutput rate count) s = .next t ∧ t = { s with
      rate := rate, cnt := count
      sel := 0x03, upc := 0, polls := 0, retries := 0, resp := .none, seq := .busy
      trace := s.trace ++ [.req 0x03 [rate.toNat, count.toNat]] }) ∧
    (∃ t, exec .dspReadByte s = .next t ∧ t = { s with
      sel := 0x04, upc := 0, polls := 0, retries := 0, resp := .none, seq := .busy
      trace := s.trace ++ [.req 0x04 []] }) ∧
    (∀ b, ∃ t, exec (.dspWriteByte b) s = .next t ∧ t = { s with
      b := b
      sel := 0x05, upc := 0, polls := 0, retries := 0, resp := .none, seq := .busy
      trace := s.trace ++ [.req 0x05 [b.toNat]] }) ∧
    (∀ ch paddr count, ∃ t, exec (.dmaConfigure ch paddr count) s = .next t ∧ t = { s with
      ch := ch, paddr := paddr, cnt := count
      sel := 0x06, upc := 0, polls := 0, retries := 0, resp := .none, seq := .busy
      trace := s.trace ++ [.req 0x06 [ch.toNat, paddr, count.toNat]] }) ∧
    (∀ paddr count rate, ∃ t, exec (.startPlayback paddr count rate) s = .next t ∧ t = { s with
      paddr := paddr, cnt := count, rate := rate, ch := s.cfg.dmaCh
      sel := 0x07, upc := 0, polls := 0, retries := 0, resp := .none, seq := .busy
      trace := s.trace ++ [.req 0x07 [paddr, count.toNat, rate.toNat]] }) ∧
    (∀ k src, ∃ t, exec (.submit k src) s = .next t ∧ t = { s with
      k := k, src := src
      sel := 0x08, upc := 0, polls := 0, retries := 0, resp := .none, seq := .busy
      trace := s.trace ++ [.req 0x08 (k :: src.map BitVec.toNat)] })

/-- A request presented while SEQ is BUSY raises `F_CONCURRENT_REQUEST` with detail the new selector, whatever the
selector, listed or reserved (R132, R307 (a)); the record takes `SEL` and `UPC` of the request in progress and nothing
else changes (R301). -/
def Obligations.RequestWhileBusyFaults : Prop :=
  ∀ (s : State) (ts : List Turn) (ws : List Nat) (sel : Byte),
    s.turns = .host ws :: ts → s.seq = .busy →
    ((∃ i, decode .request ws = .ok i ∧ i.wf s.cfg = true ∧ i.code = sel)
      ∨ decode .request ws = .error (.reservedSelector sel)) →
    step s = .next { s with
      turns := ts
      fault := some .concurrentRequest
      faultInfo := { sel := some s.sel, upc := some s.upc, detail := .selector sel }
      seq := .halted
      trace := s.trace ++
        [.fault .concurrentRequest { sel := some s.sel, upc := some s.upc, detail := .selector sel }] }

/-- Selector 0x00 and every selector from 0x09 to 0xFF is reserved (R111): presented while SEQ is IDLE it raises
`F_BAD_REQUEST` with detail the selector and changes nothing else (R133). -/
def Obligations.ReservedSelectorFaults : Prop :=
  ∀ (w : Nat) (ops : List Nat) (s : State) (ts : List Turn),
    w = 0 ∨ 9 ≤ w → w < 256 → s.turns = .host (w :: ops) :: ts → s.seq = .idle →
    step s = .next { s with
      turns := ts
      fault := some .badRequest
      faultInfo := { sel := none, upc := none, detail := .selector (BitVec.ofNat 8 w) }
      seq := .halted
      trace := s.trace ++
        [.fault .badRequest { sel := none, upc := none, detail := .selector (BitVec.ofNat 8 w) }] }

/-- While SEQ is HALTED the block accepts no request: whatever the host presents has no step (R134). That the host's turn
is then used up, and the machine's step answers a next state that differs in nothing else, is the model's choice
(notes/assumptions/8.md). -/
def Obligations.RequestWhileHaltedHasNoStep : Prop :=
  ∀ (s : State) (ts : List Turn) (ws : List Nat),
    s.turns = .host ws :: ts → s.seq = .halted → step s = .next { s with turns := ts }

/-- A halted block stays as it is under every step of every agent: SEQ, FAULT, FAULTINFO, RESP, OFFSET, TRIGGERS,
every other register and every byte memory holds are unchanged; only the devices, the lock and the trace may move on,
and a transfer may come upon the reset contents of a byte nothing has written (R305, R306, R66). -/
def Obligations.HaltedForGood : Prop :=
  ∀ s t : State, s.seq = .halted → step s = .next t →
    (∀ a x, s.byteAt a = some x → t.byteAt a = some x) ∧
    t = { s with
      dsp := t.dsp, channels := t.channels, ff := t.ff, lock := t.lock, trace := t.trace, memReset := t.memReset
      turns := t.turns, draws := t.draws, tick := t.tick }

/-! ### The sequencer's own micro-operation -/

/-- `END s` (R136): `RESP` by the source, `SEQ` IDLE, the event RSP, and nothing else, `UPC` among it. -/
def Obligations.EndGivesResponse : Prop :=
  ∀ (s : State) (src : EndSource), ∃ t, exec (.endOp src) s = .next t ∧
    (src = .ok → t.resp = .ok) ∧ (src = .v → t.resp = .byte s.v) ∧
    (src = .ver → t.resp = .version s.maj s.min) ∧ (src = .acc → t.resp = .accepted s.acc) ∧
    t = { s with resp := t.resp, seq := .idle, trace := s.trace ++ [.rsp t.resp] }

/-! ### Port I/O -/

/-- `OUT r, s` (R113, R151): the byte written is the source's, each assembled as R113 says; the event carries it; the
micro-operation advances; and but for the DSP and what is left to draw nothing else changes. -/
def Obligations.OutWritesSourceByte : Prop :=
  ∀ (s : State) (r : OutReg) (src : ByteSource), ∃ (t : State) (x : Byte), exec (.out r src) s = .next t ∧
    (∀ imm, src = .imm imm → x = imm) ∧ (src = .regB → x = s.b) ∧
    (src = .rateHi → x.toNat = s.rate.toNat / 256) ∧ (src = .rateLo → x.toNat = s.rate.toNat % 256) ∧
    (src = .cntM1Lo → (x.toNat : Int) = ((s.cnt.toNat : Int) - 1) % 65536 % 256) ∧
    (src = .cntM1Hi → (x.toNat : Int) = ((s.cnt.toNat : Int) - 1) % 65536 / 256) ∧
    (src = .modeByte → x = s.cfg.modeByte) ∧
    t = { s with
      dsp := t.dsp, draws := t.draws, tick := t.tick, upc := s.upc + 1, polls := 0
      trace := s.trace ++ [.pw (if r = .reset then .reset else .wdata) x] }

/-- A write to RESET (R261): 0x01 holds the DSP and clears its byte, its queue, its command and its session; 0x00
releases a held DSP to BOOT after a good pulse and to UNKNOWN otherwise; anything else leaves it UNKNOWN. -/
def Obligations.ResetWriteDrivesDsp : Prop :=
  ∀ (s : State) (x : Byte), ∃ t, exec (.out .reset (.imm x)) s = .next t ∧
    (x = 0x01 → t.dsp = { s.dsp with
      st := .held, pulseOk := false, out := [], cmd := none, sess := none, avail := false, resetReg := 0x01 }) ∧
    (x = 0x00 → s.dsp.st = .held → s.dsp.pulseOk = true → t.dsp = { s.dsp with st := .boot, resetReg := 0x00 }) ∧
    (x = 0x00 → s.dsp.st = .held → s.dsp.pulseOk = false → t.dsp = { s.dsp with st := .unknown, resetReg := 0x00 }) ∧
    (x = 0x00 → s.dsp.st ≠ .held → t.dsp = { s.dsp with st := .unknown, resetReg := 0x00 }) ∧
    (x ≠ 0x01 → x ≠ 0x00 → t.dsp = { s.dsp with st := .unknown, resetReg := x }) ∧
    t.draws = s.draws ∧ t.tick = s.tick

/-- A write to WDATA that the DSP cannot take, because it is not READY or is busy, leaves it UNKNOWN and nothing else
of it changes (R266). -/
def Obligations.UnreadyWriteLosesDsp : Prop :=
  ∀ (s : State) (src : ByteSource), s.dsp.st ≠ .ready ∨ s.dsp.busy = true →
    ∃ t, exec (.out .wdata src) s = .next t ∧
      t = { s with
        dsp := { s.dsp with st := .unknown, wdataReg := s.byteSource src }, upc := s.upc + 1, polls := 0
        trace := s.trace ++ [.pw .wdata (s.byteSource src)] }

/-- A byte a READY DSP takes at command position (R266, R270 to R273): the busy bit is drawn; 0xE1 queues two drawn
bytes, 0x41 and 0xC0 wait for parameters, and any other leaves the DSP UNKNOWN. The draws are, in order, the busy bit,
the major byte and the minor byte. -/
def Obligations.CommandByteTaken : Prop :=
  ∀ (s : State) (x d0 d1 d2 : Byte) (ds : List Byte),
    s.dsp.st = .ready → s.dsp.busy = false → s.dsp.cmd = none → s.draws = d0 :: d1 :: d2 :: ds →
    ∃ t, exec (.out .wdata (.imm x)) s = .next t ∧
      (x = 0xE1 → t.draws = ds ∧ t.dsp = { s.dsp with
        busy := d0.getLsbD 0, out := s.dsp.out ++ [d1, d2], wdataReg := x }) ∧
      (x = 0x41 ∨ x = 0xC0 → t.draws = d1 :: d2 :: ds ∧ t.dsp = { s.dsp with
        busy := d0.getLsbD 0, cmd := some (x, []), wdataReg := x }) ∧
      (x ≠ 0xE1 → x ≠ 0x41 → x ≠ 0xC0 → t.draws = d1 :: d2 :: ds ∧ t.dsp = { s.dsp with
        busy := d0.getLsbD 0, st := .unknown, wdataReg := x })

/-- A byte a READY DSP takes at parameter position (R107, R266, R271, R272), whatever byte it is: it is appended; the
second parameter of 0x41 sets the rate, high byte first; the third of 0xC0 starts a session of mode p0 and length
(p2 * 256 + p1) + 1, in place of any active one. -/
def Obligations.ParameterByteTaken : Prop :=
  ∀ (s : State) (x p0 p1 d0 : Byte) (ds : List Byte),
    s.dsp.st = .ready → s.dsp.busy = false → s.draws = d0 :: ds →
    ∃ t, exec (.out .wdata (.imm x)) s = .next t ∧
      (s.dsp.cmd = some (0x41, []) → t.dsp = { s.dsp with
        busy := d0.getLsbD 0, cmd := some (0x41, [x]), wdataReg := x }) ∧
      (s.dsp.cmd = some (0x41, [p0]) → t.dsp = { s.dsp with
        busy := d0.getLsbD 0, rate := BitVec.ofNat 16 (p0.toNat * 256 + x.toNat), cmd := none, wdataReg := x }) ∧
      (s.dsp.cmd = some (0xC0, []) → t.dsp = { s.dsp with
        busy := d0.getLsbD 0, cmd := some (0xC0, [x]), wdataReg := x }) ∧
      (s.dsp.cmd = some (0xC0, [p0]) → t.dsp = { s.dsp with
        busy := d0.getLsbD 0, cmd := some (0xC0, [p0, x]), wdataReg := x }) ∧
      (s.dsp.cmd = some (0xC0, [p0, p1]) → t.dsp = { s.dsp with
        busy := d0.getLsbD 0, cmd := none, wdataReg := x
        sess := some { mode := p0, len := (x.toNat * 256 + p1.toNat) + 1, done := 0 } })

/-- `IN RDATA -> d` (R152, R265): an available byte is returned and consumed; an UNKNOWN DSP, or one with no byte,
gives a drawn byte and keeps its state; the byte goes to the destination and the event, and the micro-operation
advances. -/
def Obligations.InReadsDataByte : Prop :=
  ∀ (s : State) (d : InDest), ∃ (t : State) (x : Byte), exec (.inp d) s = .next t ∧
    (s.dsp.st ≠ .unknown → s.dsp.avail = true →
      x = s.dsp.latch ∧ t.dsp = { s.dsp with avail := false } ∧ t.draws = s.draws ∧ t.tick = s.tick) ∧
    (s.dsp.st = .unknown ∨ s.dsp.avail = false →
      t.dsp = s.dsp ∧ ∀ y ys, s.draws = y :: ys → x = y ∧ t.draws = ys) ∧
    (t.v = if d = .v then x else s.v) ∧ (t.maj = if d = .maj then x else s.maj) ∧
    (t.min = if d = .min then x else s.min) ∧
    t = { s with
      v := t.v, maj := t.maj, min := t.min, dsp := t.dsp, draws := t.draws, tick := t.tick, upc := s.upc + 1
      polls := 0, trace := s.trace ++ [.pr .rdata x] }

/-- `POLL_WR` (R153, R264): the read emits its event; with bit 7 clear the micro-operation advances; with bit 7 set
`POLLS` counts the read, and it faults if the count has come to a numeric `POLL_LIMIT` and holds otherwise. The bit is
`BUSY` of a READY DSP and a draw of any other. -/
def Obligations.PollWrWaitsForBusyClear : Prop :=
  ∀ s : State, ∃ (t : State) (x : Byte), exec .pollWr s = .next t ∧
    (s.dsp.st = .ready → x.getLsbD 7 = s.dsp.busy) ∧
    (∀ y ys, s.draws = y :: ys → t.draws = ys ∧ (s.dsp.st ≠ .ready → x = y)) ∧
    (x.getLsbD 7 = false → t = { s with
      draws := t.draws, tick := t.tick, upc := s.upc + 1, polls := 0, trace := s.trace ++ [.pr .wstatus x] }) ∧
    (x.getLsbD 7 = true → (∀ n, s.cfg.pollLimit = some n → s.polls + 1 < n) → t = { s with
      draws := t.draws, tick := t.tick, polls := s.polls + 1, trace := s.trace ++ [.pr .wstatus x] }) ∧
    (x.getLsbD 7 = true → ∀ n, s.cfg.pollLimit = some n → n ≤ s.polls + 1 → t = { s with
      draws := t.draws, tick := t.tick, polls := s.polls + 1, seq := .halted, fault := some .deviceNotResponding
      faultInfo := { sel := some s.sel, upc := some s.upc, detail := .device .wstatus (s.polls + 1) }
      trace := s.trace ++ [.pr .wstatus x, .fault .deviceNotResponding
        { sel := some s.sel, upc := some s.upc, detail := .device .wstatus (s.polls + 1) }] })

/-- `POLL_RD` (R154, R263): as `POLL_WR`, but it advances when bit 7 is set; the bit is `AVAIL` of a DSP that is not
UNKNOWN and a draw of one that is. -/
def Obligations.PollRdWaitsForData : Prop :=
  ∀ s : State, ∃ (t : State) (x : Byte), exec .pollRd s = .next t ∧
    (s.dsp.st ≠ .unknown → x.getLsbD 7 = s.dsp.avail) ∧
    (∀ y ys, s.draws = y :: ys → t.draws = ys ∧ (s.dsp.st = .unknown → x = y)) ∧
    (x.getLsbD 7 = true → t = { s with
      draws := t.draws, tick := t.tick, upc := s.upc + 1, polls := 0, trace := s.trace ++ [.pr .rstatus x] }) ∧
    (x.getLsbD 7 = false → (∀ n, s.cfg.pollLimit = some n → s.polls + 1 < n) → t = { s with
      draws := t.draws, tick := t.tick, polls := s.polls + 1, trace := s.trace ++ [.pr .rstatus x] }) ∧
    (x.getLsbD 7 = false → ∀ n, s.cfg.pollLimit = some n → n ≤ s.polls + 1 → t = { s with
      draws := t.draws, tick := t.tick, polls := s.polls + 1, seq := .halted, fault := some .deviceNotResponding
      faultInfo := { sel := some s.sel, upc := some s.upc, detail := .device .rstatus (s.polls + 1) }
      trace := s.trace ++ [.pr .rstatus x, .fault .deviceNotResponding
        { sel := some s.sel, upc := some s.upc, detail := .device .rstatus (s.polls + 1) }] })

/-- `DELAY d` (R155, R262): the event records `d`; a HELD DSP has a good pulse from a delay of at least
`RESET_PULSE_MIN_US`, and no other DSP or delay changes anything. -/
def Obligations.DelayMakesPulse : Prop :=
  ∀ (s : State) (d : Nat), ∃ t, exec (.delay d) s = .next t ∧
    (s.dsp.st = .held → s.cfg.resetPulseMinUs ≤ d → t.dsp = { s.dsp with pulseOk := true }) ∧
    (s.dsp.st ≠ .held ∨ d < s.cfg.resetPulseMinUs → t.dsp = s.dsp) ∧
    t = { s with dsp := t.dsp, upc := s.upc + 1, polls := 0, trace := s.trace ++ [.dly d] }

/-! ### DSP protocol micro-operations -/

/-- `BNE_V imm, t` (R174): an equal byte advances; another is counted in `RETRIES`, and the micro-operation faults when
the count has come to a numeric `RESET_READ_LIMIT` and branches otherwise. -/
def Obligations.BneVRetries : Prop :=
  ∀ (s : State) (imm : Byte) (n : Nat), ∃ t, exec (.bneV imm n) s = .next t ∧
    (s.v = imm → t = { s with upc := s.upc + 1, polls := 0 }) ∧
    (s.v ≠ imm → (∀ l, s.cfg.resetReadLimit = some l → s.retries + 1 < l) →
      t = { s with retries := s.retries + 1, upc := n, polls := 0 }) ∧
    (s.v ≠ imm → ∀ l, s.cfg.resetReadLimit = some l → l ≤ s.retries + 1 → t = { s with
      retries := s.retries + 1, seq := .halted, fault := some .deviceNotResponding
      faultInfo := { sel := some s.sel, upc := some s.upc, detail := .device .rdata (s.retries + 1) }
      trace := s.trace ++ [.fault .deviceNotResponding
        { sel := some s.sel, upc := some s.upc, detail := .device .rdata (s.retries + 1) }] })

/-- `CHK_CNT` (R179): a count in 1..65536 advances, 0 and above 65536 raise `F_TRANSFER_COUNT_RANGE` with detail
`CNT`. -/
def Obligations.ChkCntChecksRange : Prop :=
  ∀ s : State, ∃ t, exec .chkCnt s = .next t ∧
    (1 ≤ s.cnt.toNat → s.cnt.toNat ≤ 65536 → t = { s with upc := s.upc + 1, polls := 0 }) ∧
    (s.cnt.toNat = 0 ∨ 65536 < s.cnt.toNat → t = { s with
      seq := .halted, fault := some .transferCountRange
      faultInfo := { sel := some s.sel, upc := some s.upc, detail := .count s.cnt }
      trace := s.trace ++ [.fault .transferCountRange
        { sel := some s.sel, upc := some s.upc, detail := .count s.cnt }] })

/-- `LOG k` (R177): the event carries the values; `INTENT` counts a trigger. -/
def Obligations.LogEmits : Prop :=
  ∀ s : State,
    (∃ t, exec (.log .version) s = .next t ∧ t = { s with
      upc := s.upc + 1, polls := 0, trace := s.trace ++ [.logVersion s.maj s.min] }) ∧
    (∃ t, exec (.log .intent) s = .next t ∧ t = { s with
      triggers := s.triggers + 1, upc := s.upc + 1, polls := 0
      trace := s.trace ++ [.logIntent s.paddr s.cnt s.rate] })

/-! ### DMA channel micro-operations -/

/-- `CHK_DMA` (R202, R77): a channel up to 3, a count in 1..65536 and a region below `2^PADDR_WIDTH` and inside one
64 KiB block advance; anything else raises `F_DMA_RANGE` with detail (`CH`, `PADDR`, `CNT`). -/
def Obligations.ChkDmaChecksRegion : Prop :=
  ∀ s : State, ∃ t, exec .chkDma s = .next t ∧
    (s.ch.toNat ≤ 3 → 1 ≤ s.cnt.toNat → s.cnt.toNat ≤ 65536 → s.paddr + s.cnt.toNat ≤ 2 ^ s.cfg.paddrWidth →
      s.paddr % 65536 + s.cnt.toNat ≤ 65536 → t = { s with upc := s.upc + 1, polls := 0 }) ∧
    (3 < s.ch.toNat ∨ s.cnt.toNat < 1 ∨ 65536 < s.cnt.toNat ∨ 2 ^ s.cfg.paddrWidth < s.paddr + s.cnt.toNat
      ∨ 65536 < s.paddr % 65536 + s.cnt.toNat → t = { s with
      seq := .halted, fault := some .dmaRange
      faultInfo := { sel := some s.sel, upc := some s.upc, detail := .region s.ch s.paddr s.cnt }
      trace := s.trace ++ [.fault .dmaRange
        { sel := some s.sel, upc := some s.upc, detail := .region s.ch s.paddr s.cnt }] })

/-- `DMA_LOCK` (R203) and `DMA_UNLOCK` (R204): the lock is taken when free, held for while another user has it, and a
second taking or a release of a lock not held raises `F_LOCK_STATE` with detail `LOCK`. -/
def Obligations.LockTakenAndReleased : Prop :=
  ∀ s : State, ∃ t u, exec .dmaLock s = .next t ∧ exec .dmaUnlock s = .next u ∧
    (s.lock = .free → t = { s with
      lock := .seq, upc := s.upc + 1, polls := 0, trace := s.trace ++ [.dma .lock] }) ∧
    (s.lock = .other → t = s) ∧
    (s.lock = .seq → t = { s with
      seq := .halted, fault := some .lockState
      faultInfo := { sel := some s.sel, upc := some s.upc, detail := .lock .seq }
      trace := s.trace ++ [.fault .lockState { sel := some s.sel, upc := some s.upc, detail := .lock .seq }] }) ∧
    (s.lock = .seq → u = { s with
      lock := .free, upc := s.upc + 1, polls := 0, trace := s.trace ++ [.dma .unlock] }) ∧
    (s.lock ≠ .seq → u = { s with
      seq := .halted, fault := some .lockState
      faultInfo := { sel := some s.sel, upc := some s.upc, detail := .lock s.lock }
      trace := s.trace ++ [.fault .lockState { sel := some s.sel, upc := some s.upc, detail := .lock s.lock }] })

/-- `DMA_CLEAR_FF` (R206) under the lock clears the latch, emits its event and advances, whatever `CH` is, and leaves
every channel and other register as it was; `DMA_DISABLE` (R205), `DMA_ENABLE` (R210) and `DMA_SET_MODE` (R207) under
the lock, on a channel the controller has: each writes its one register of channel `CH`, emits its event, advances, and
leaves every other channel and register as it was. -/
def Obligations.ChannelOperationsUnderLock : Prop :=
  ∀ s : State, s.lock = .seq →
    (∃ t, exec .dmaClearFf s = .next t ∧ t = { s with
      ff := .cleared, upc := s.upc + 1, polls := 0, trace := s.trace ++ [.dma (.clrff s.ch)] }) ∧
    ∀ c, s.channel? s.ch = some c →
      (∃ t, exec .dmaDisable s = .next t ∧ t.channel? s.ch = some { c with mask := true } ∧
        (∀ h, h ≠ s.ch → t.channel? h = s.channel? h) ∧
        t = { s with
          channels := t.channels, upc := s.upc + 1, polls := 0, trace := s.trace ++ [.dma (.disable s.ch)] }) ∧
      (∃ t, exec .dmaEnable s = .next t ∧ t.channel? s.ch = some { c with mask := false } ∧
        (∀ h, h ≠ s.ch → t.channel? h = s.channel? h) ∧
        t = { s with
          channels := t.channels, upc := s.upc + 1, polls := 0, trace := s.trace ++ [.dma (.enable s.ch)] }) ∧
      (∃ t, exec .dmaSetMode s = .next t ∧ t.channel? s.ch = some { c with mode := .singleM2D } ∧
        (∀ h, h ≠ s.ch → t.channel? h = s.channel? h) ∧
        t = { s with
          channels := t.channels, upc := s.upc + 1, polls := 0
          trace := s.trace ++ [.dma (.mode s.ch .singleM2D)] })

/-- `DMA_SET_ADDR` (R208) and `DMA_SET_COUNT` (R209) under the lock with the latch cleared, on a channel the controller
has: the address or the count is written whole, `XFER` is 0, the latch stays cleared, and every other channel and
register is as it was. -/
def Obligations.AddressAndCountSet : Prop :=
  ∀ (s : State) (c : Channel), s.lock = .seq → s.ff = .cleared → s.channel? s.ch = some c →
    (∃ t, exec .dmaSetAddr s = .next t ∧ t.channel? s.ch = some { c with addr := s.paddr, xfer := 0 } ∧
      (∀ h, h ≠ s.ch → t.channel? h = s.channel? h) ∧
      t = { s with
        channels := t.channels, upc := s.upc + 1, polls := 0
        trace := s.trace ++ [.dma (.addr s.ch s.paddr)] }) ∧
    (∃ t, exec .dmaSetCount s = .next t ∧ t.channel? s.ch = some { c with count := s.cnt.toNat, xfer := 0 } ∧
      (∀ h, h ≠ s.ch → t.channel? h = s.channel? h) ∧
      t = { s with
        channels := t.channels, upc := s.upc + 1, polls := 0
        trace := s.trace ++ [.dma (.count s.ch s.cnt)] })

/-- Without the lock every channel micro-operation raises `F_LOCK_STATE` (R205 to R210), before any other test
(R307 (c)); with the lock and the latch not cleared, setting the address or the count raises `F_FLIPFLOP_NOT_CLEARED`
with detail `CH` (R208, R209). Each fault changes nothing but the record, SEQ and the trace (R301). With both, on a
channel above 3, which the controller does not have (R44), the ones that write a channel register stop the model
(notes/assumptions/15.md). -/
def Obligations.ChannelOperationFaults : Prop :=
  ∀ (s : State) (i : Instr),
    (s.lock ≠ .seq →
      i ∈ [Instr.dmaDisable, .dmaClearFf, .dmaSetMode, .dmaSetAddr, .dmaSetCount, .dmaEnable, .dmaUnlock] →
      exec i s = .next { s with
        seq := .halted, fault := some .lockState
        faultInfo := { sel := some s.sel, upc := some s.upc, detail := .lock s.lock }
        trace := s.trace ++ [.fault .lockState
          { sel := some s.sel, upc := some s.upc, detail := .lock s.lock }] }) ∧
    (s.lock = .seq → s.ff ≠ .cleared → i ∈ [Instr.dmaSetAddr, .dmaSetCount] →
      exec i s = .next { s with
        seq := .halted, fault := some .flipFlopNotCleared
        faultInfo := { sel := some s.sel, upc := some s.upc, detail := .channel s.ch }
        trace := s.trace ++ [.fault .flipFlopNotCleared
          { sel := some s.sel, upc := some s.upc, detail := .channel s.ch }] }) ∧
    (s.lock = .seq → 3 < s.ch.toNat →
      i ∈ [Instr.dmaDisable, .dmaSetMode, .dmaEnable] ∨ s.ff = .cleared ∧ i ∈ [Instr.dmaSetAddr, .dmaSetCount] →
      exec i s = .fault (.dmaChannel s.ch))

/-! ### Staging buffer micro-operations -/

/-- `CHK_SPACE` (R242, R303): with `OFFSET ≥ CAP` the request ends with `OUT_OF_SPACE` and only `RESP`, `SEQ` and the
trace change; otherwise `ACC` is the smaller of `K` and `CAP - OFFSET` and `I` is 0. -/
def Obligations.ChkSpaceAccepts : Prop :=
  ∀ s : State, ∃ t, exec .chkSpace s = .next t ∧
    (s.cfg.cap ≤ s.offset → t = { s with
      resp := .outOfSpace, seq := .idle, trace := s.trace ++ [.rsp .outOfSpace] }) ∧
    (s.offset < s.cfg.cap → s.k ≤ s.cfg.cap - s.offset → t = { s with
      acc := s.k, idx := 0, upc := s.upc + 1, polls := 0 }) ∧
    (s.offset < s.cfg.cap → s.cfg.cap - s.offset ≤ s.k → t = { s with
      acc := s.cfg.cap - s.offset, idx := 0, upc := s.upc + 1, polls := 0 })

/-- `COPY` (R243), with bytes left to copy and the next one in `SRC` and its place in physical memory: the byte at
`BUF_PADDR + OFFSET + I` becomes `SRC[I]`, every other byte of memory reads as before, the event is `BUFW(OFFSET + I,
SRC[I])`, and the micro-operation advances when `I` comes to `ACC` and holds otherwise. With none left it advances and
writes nothing. Where `SRC` has no byte `I`, or the place is no address of physical memory, the model stops by name
(notes/assumptions/14.md, notes/assumptions/16.md). -/
def Obligations.CopyStoresOneByte : Prop :=
  ∀ s : State,
    (∀ x, s.idx < s.acc → s.src[s.idx]? = some x → s.cfg.bufPaddr + s.offset + s.idx < 2 ^ s.cfg.paddrWidth →
      ∃ t, exec .copy s = .next t ∧
        t.mem.read (s.cfg.bufPaddr + s.offset + s.idx) = some x ∧
        (∀ a, a ≠ s.cfg.bufPaddr + s.offset + s.idx → t.mem.read a = s.mem.read a) ∧
        t.upc = (if s.idx + 1 = s.acc then s.upc + 1 else s.upc) ∧
        t.polls = (if s.idx + 1 = s.acc then 0 else s.polls) ∧
        t = { s with
          mem := t.mem, idx := s.idx + 1, upc := t.upc, polls := t.polls
          trace := s.trace ++ [.bufw (s.offset + s.idx) x] }) ∧
    (s.acc ≤ s.idx → ∃ t, exec .copy s = .next t ∧ t = { s with upc := s.upc + 1, polls := 0 }) ∧
    (s.idx < s.acc → s.src.length ≤ s.idx → exec .copy s = .fault (.sourceByte s.idx)) ∧
    (s.idx < s.acc → s.idx < s.src.length → 2 ^ s.cfg.paddrWidth ≤ s.cfg.bufPaddr + s.offset + s.idx →
      exec .copy s = .fault (.physicalAddress (s.cfg.bufPaddr + s.offset + s.idx)))

/-- `ADV` (R244), `BLT_FULL t` (R245), `LOAD_TRIG` (R246) and `OFS_CLR` (R247), each with its whole effect and nothing
else. -/
def Obligations.StagingOperations : Prop :=
  ∀ s : State,
    (∃ t, exec .adv s = .next t ∧ t = { s with offset := s.offset + s.acc, upc := s.upc + 1, polls := 0 }) ∧
    (∀ n, ∃ t, exec (.bltFull n) s = .next t ∧
      (s.offset < s.cfg.cap → t = { s with upc := n, polls := 0 }) ∧
      (s.cfg.cap ≤ s.offset → t = { s with upc := s.upc + 1, polls := 0 })) ∧
    (s.cfg.ok = true → ∃ t, exec .loadTrig s = .next t ∧ t.cnt.toNat = s.cfg.cap ∧ t = { s with
      paddr := s.cfg.bufPaddr, cnt := t.cnt, rate := s.cfg.sampleRate, ch := s.cfg.dmaCh
      upc := s.upc + 1, polls := 0 }) ∧
    (∃ t, exec .ofsClr s = .next t ∧ t = { s with offset := 0, upc := s.upc + 1, polls := 0 })

/-! ### The DSP's commands as instructions -/

/-- `GET_VERSION` (R270), carried out by a READY DSP: two drawn bytes are queued, the major byte the first drawn, and
nothing else changes; a DSP that is not READY is left UNKNOWN (R182, R266: the model's reading of a command it cannot
take, notes/assumptions/20.md). -/
def Obligations.GetVersionQueuesTwoBytes : Prop :=
  ∀ s : State,
    (s.dsp.st = .ready → ∃ t x y, exec .getVersion s = .next t ∧
      t = { s with dsp := { s.dsp with out := s.dsp.out ++ [x, y] }, draws := t.draws, tick := t.tick } ∧
      (∀ a b ds, s.draws = a :: b :: ds → x = a ∧ y = b ∧ t.draws = ds ∧ t.tick = s.tick)) ∧
    (s.dsp.st ≠ .ready → ∃ t, exec .getVersion s = .next t ∧
      t = { s with dsp := { s.dsp with st := .unknown } })

/-- `SET_OUTPUT_RATE` (R271), carried out by a READY DSP: every 16-bit rate is taken, the high byte first, the parser
is at command position again, and nothing else changes; a DSP that is not READY is left UNKNOWN (R182, R266: the
model's reading, notes/assumptions/20.md). -/
def Obligations.SetOutputRateTakesRate : Prop :=
  ∀ (s : State) (p0 p1 : Byte), ∃ rate, decode .dsp [0x41, p0.toNat, p1.toNat] = .ok (.setOutputRate rate) ∧
    (s.dsp.st = .ready → ∃ t, exec (.setOutputRate rate) s = .next t ∧
      t.dsp.rate.toNat = p0.toNat * 256 + p1.toNat ∧
      t = { s with dsp := { s.dsp with rate := t.dsp.rate, cmd := none } }) ∧
    (s.dsp.st ≠ .ready → ∃ t, exec (.setOutputRate rate) s = .next t ∧
      t = { s with dsp := { s.dsp with st := .unknown } })

/-- `DMA8_OUTPUT` (R272), carried out by a READY DSP: a session of mode p0 and length (p2 * 256 + p1) + 1, in
1..65536, with nothing done, replaces any active one, and nothing else changes; a DSP that is not READY is left
UNKNOWN (R182, R266: the model's reading, notes/assumptions/20.md). -/
def Obligations.Dma8OutputStartsSession : Prop :=
  ∀ (s : State) (p0 p1 p2 : Byte), ∃ mode countM1,
    decode .dsp [0xC0, p0.toNat, p1.toNat, p2.toNat] = .ok (.dma8Output mode countM1) ∧
    (s.dsp.st = .ready → ∃ t, exec (.dma8Output mode countM1) s = .next t ∧
      t = { s with dsp := { s.dsp with
        cmd := none
        sess := some { mode := p0, len := (p2.toNat * 256 + p1.toNat) + 1, done := 0 } } }) ∧
    (s.dsp.st ≠ .ready → ∃ t, exec (.dma8Output mode countM1) s = .next t ∧
      t = { s with dsp := { s.dsp with st := .unknown } })

/-! ### The other agents' steps -/

/-- Boot (R267): only while BOOT with no byte available may the DSP present a noise byte, which is not 0xAA, or present
0xAA and be READY with nothing pending. That a turn naming either move where it is not enabled passes, and changes
nothing, is the model's choice (notes/assumptions/8.md). -/
def Obligations.BootPresentsBytes : Prop :=
  ∀ (s : State) (ts : List Turn) (x : Byte), ∃ u v,
    step { s with turns := .dsp (.presentNoise x) :: ts } = .next u ∧
    step { s with turns := .dsp .presentReady :: ts } = .next v ∧
    (s.dsp.st = .boot → s.dsp.avail = false → x ≠ 0xAA →
      u = { s with turns := ts, dsp := { s.dsp with latch := x, avail := true } }) ∧
    (s.dsp.st = .boot → s.dsp.avail = false → v = { s with
      turns := ts
      dsp := { s.dsp with
        latch := 0xAA, avail := true, st := .ready, busy := false, cmd := none, out := [], sess := none } }) ∧
    (s.dsp.st ≠ .boot ∨ s.dsp.avail = true → u = { s with turns := ts } ∧ v = { s with turns := ts }) ∧
    (x = 0xAA → u = { s with turns := ts })

/-- Busy and output (R268, R269): a READY DSP may clear its busy bit, and may present the next queued byte when none
is available, in the order they were queued; neither move changes anything else. That a turn naming either move where
it is not enabled passes, and changes nothing, is the model's choice (notes/assumptions/8.md). -/
def Obligations.ReadyDspPresentsQueue : Prop :=
  ∀ (s : State) (ts : List Turn), ∃ u v,
    step { s with turns := .dsp .clearBusy :: ts } = .next u ∧
    step { s with turns := .dsp .presentOutput :: ts } = .next v ∧
    (s.dsp.st = .ready → u = { s with turns := ts, dsp := { s.dsp with busy := false } }) ∧
    (s.dsp.st ≠ .ready → u = { s with turns := ts } ∧ v = { s with turns := ts }) ∧
    (∀ x xs, s.dsp.out = x :: xs → s.dsp.st = .ready → s.dsp.avail = false →
      v = { s with turns := ts, dsp := { s.dsp with latch := x, out := xs, avail := true } }) ∧
    (s.dsp.out = [] ∨ s.dsp.avail = true → v = { s with turns := ts })

/-- The transfer step (R275, R277, R278): a READY DSP with an active session and channel `DMA_CH` armed in single-cycle
memory-to-device mode moves the byte at `ADDR + XFER`: the byte memory holds there, or, where nothing has written it,
its reset contents (R66, R87), which the model draws at this first read and holds from then on
(notes/assumptions/13.md); its event, `XFER` and the session one further, the channel masked when `XFER` comes to
`COUNT`, the session over when its last sample is taken; the bytes something has written, what memory holds elsewhere,
the lock, the other channels and every register of the block are as they were. A channel armed in another mode (R47;
notes/assumptions/22.md), a transfer from an address that is none of physical memory (notes/assumptions/14.md), and a
`DMA_CH` above 3 (notes/assumptions/15.md) stop the model by name. No byte moves where the DSP is HELD or BOOT, where a
READY DSP has no session with samples left (R275, R331), or where the channel is masked or at terminal count (R205,
R214, R278): that the turn then passes is the model's choice (notes/assumptions/8.md). -/
def Obligations.TransferMovesOneByte : Prop :=
  ∀ (s : State) (ts : List Turn), s.turns = .dsp .transfer :: ts →
    (∀ (c : Channel) (z : Session), s.dsp.st = .ready → s.dsp.sess = some z → z.done < z.len →
      s.channel? s.cfg.dmaCh = some c → c.mask = false → c.xfer < c.count →
      (c.mode = .singleM2D → c.addr + c.xfer < 2 ^ s.cfg.paddrWidth → ∃ (t : State) (x : Byte), step s = .next t ∧
        t.byteAt (c.addr + c.xfer) = some x ∧ (∀ a, a ≠ c.addr + c.xfer → t.byteAt a = s.byteAt a) ∧
        (∀ y, s.byteAt (c.addr + c.xfer) = some y →
          x = y ∧ t.memReset = s.memReset ∧ t.draws = s.draws ∧ t.tick = s.tick) ∧
        (∀ y ys, s.byteAt (c.addr + c.xfer) = none → s.draws = y :: ys → x = y ∧ t.draws = ys) ∧
        t.channel? s.cfg.dmaCh = some { c with xfer := c.xfer + 1, mask := decide (c.xfer + 1 = c.count) } ∧
        (∀ h, h ≠ s.cfg.dmaCh → t.channel? h = s.channel? h) ∧
        t = { s with
          turns := ts, draws := t.draws, tick := t.tick, memReset := t.memReset, channels := t.channels
          trace := s.trace ++ [.xfer s.cfg.dmaCh (c.addr + c.xfer) x]
          dsp := { s.dsp with
            sess := if z.done + 1 = z.len then none else some { z with done := z.done + 1 } } }) ∧
      (c.mode = .singleM2D → 2 ^ s.cfg.paddrWidth ≤ c.addr + c.xfer →
        step s = .fault (.physicalAddress (c.addr + c.xfer))) ∧
      (c.mode ≠ .singleM2D → step s = .fault (.channelMode s.cfg.dmaCh))) ∧
    (∀ c : Channel, s.channel? s.cfg.dmaCh = some c →
      s.dsp.st = .held ∨ s.dsp.st = .boot ∨ (s.dsp.st = .ready ∧ ∀ z, s.dsp.sess = some z → z.len ≤ z.done) ∨
        c.mask = true ∨ c.count ≤ c.xfer →
      step s = .next { s with turns := ts }) ∧
    (s.channel? s.cfg.dmaCh = none → step s = .fault (.dmaChannel s.cfg.dmaCh))

/-- The starved sample (R276, R277): a READY DSP with an active session and channel `DMA_CH` masked or at terminal
count may play a sample without data: the event UNDERRUN and the session one further, and nothing else. No UNDERRUN comes
where the channel is armed (R284), where the DSP is not READY, or where it has no session with samples left: that the
turn then passes is the model's choice (notes/assumptions/8.md). With a `DMA_CH` above 3 the model stops by name
(notes/assumptions/15.md). -/
def Obligations.StarvedSampleUnderruns : Prop :=
  ∀ (s : State) (ts : List Turn), s.turns = .dsp .starve :: ts →
    (∀ (c : Channel) (z : Session), s.dsp.st = .ready → s.dsp.sess = some z → z.done < z.len →
      s.channel? s.cfg.dmaCh = some c → c.mask = true ∨ c.count ≤ c.xfer →
      step s = .next { s with
        turns := ts, trace := s.trace ++ [.underrun]
        dsp := { s.dsp with sess := if z.done + 1 = z.len then none else some { z with done := z.done + 1 } } }) ∧
    (∀ c : Channel, s.channel? s.cfg.dmaCh = some c →
      s.dsp.st ≠ .ready ∨ (∀ z, s.dsp.sess = some z → z.len ≤ z.done) ∨ (c.mask = false ∧ c.xfer < c.count) →
      step s = .next { s with turns := ts }) ∧
    (s.channel? s.cfg.dmaCh = none → step s = .fault (.dmaChannel s.cfg.dmaCh))

/-- The DSP in UNKNOWN (R274): a step of its own may set all of its state to any values, `st` excepted, and nothing of
the block. No step of its own leaves UNKNOWN, writes memory, or changes a channel or emits anything but by the transfer
step: that one it takes only where channel `DMA_CH` is armed, and it then moves the byte memory holds at `ADDR + XFER`
of that channel, and the channel one further (R275, R278). Where the channel is armed, a transfer turn does take it. The
model's, and not R274's, are that the armed channel is in single-cycle memory-to-device mode
(notes/assumptions/22.md) and the address one of physical memory (notes/assumptions/14.md), since it stops elsewhere,
and that setting the components and transferring are two moves (notes/assumptions/28.md). -/
def Obligations.UnknownDspIsUnconstrained : Prop :=
  ∀ (s : State) (ts : List Turn) (m : DspMove) (t : State),
    s.turns = .dsp m :: ts → s.dsp.st = .unknown → step s = .next t →
    t.dsp.st = .unknown ∧ t.mem = s.mem ∧ t.lock = s.lock ∧ t.ff = s.ff ∧
    (∀ a x, s.byteAt a = some x → t.byteAt a = some x) ∧
    ((t.trace = s.trace ∧ t.channels = s.channels ∧
        (m = .transfer → ∀ c, s.channel? s.cfg.dmaCh = some c → c.mask = true ∨ c.count ≤ c.xfer)) ∨
      ∃ (c : Channel) (x : Byte), m = .transfer ∧ s.channel? s.cfg.dmaCh = some c ∧
        c.mask = false ∧ c.xfer < c.count ∧ c.mode = .singleM2D ∧ c.addr + c.xfer < 2 ^ s.cfg.paddrWidth ∧
        t.byteAt (c.addr + c.xfer) = some x ∧
        t.channel? s.cfg.dmaCh = some { c with xfer := c.xfer + 1, mask := decide (c.xfer + 1 = c.count) } ∧
        t.trace = s.trace ++ [.xfer s.cfg.dmaCh (c.addr + c.xfer) x]) ∧
    (∀ h, h ≠ s.cfg.dmaCh → t.channel? h = s.channel? h) ∧ { s with turns := ts }.SameRegisters t ∧
    (∀ avail latch busy out cmd rate sess,
      (∀ z, sess = some z → 1 ≤ z.len ∧ z.len ≤ 65536 ∧ z.done ≤ z.len) →
      m = .anything avail latch busy out cmd rate sess →
      t.dsp = { s.dsp with
        avail := avail, latch := latch, busy := busy, out := out, cmd := cmd, rate := rate, sess := sess })

/-- Other DMA users (R282): they take a free lock and give back their own, and no other move of theirs writes `LOCK`;
they change the latch and channels only by configuring, one channel at a time (notes/assumptions/25.md) and only while
they hold the lock; they never touch channel `DMA_CH`, and emit nothing. That a move which is not enabled, or whose
values are not of the registers' types, passes and changes nothing is the model's choice (notes/assumptions/8.md,
notes/assumptions/25.md). -/
def Obligations.OtherUsersKeepToTheirs : Prop :=
  ∀ (s : State) (ts : List Turn) (m : UserMove), s.turns = .otherUser m :: ts →
    ∃ t, step s = .next t ∧
      (m = .acquire → s.lock = .free → t.lock = .other) ∧ (m = .acquire → s.lock ≠ .free → t.lock = s.lock) ∧
      (m = .release → s.lock = .other → t.lock = .free) ∧ (m = .release → s.lock ≠ .other → t.lock = s.lock) ∧
      (m = .acquire ∨ m = .release → t.ff = s.ff ∧ t.channels = s.channels) ∧
      (s.lock = .seq → t.lock = .seq) ∧ (s.lock ≠ .other → t.ff = s.ff ∧ t.channels = s.channels) ∧
      t.channel? s.cfg.dmaCh = s.channel? s.cfg.dmaCh ∧
      (∀ ff h c, m = .configure ff h c → t.lock = s.lock ∧ (∀ h', h' ≠ h → t.channel? h' = s.channel? h') ∧
        (s.lock = .other → h ≠ s.cfg.dmaCh → h.toNat ≤ 3 →
          c.addr < 2 ^ s.cfg.paddrWidth → 1 ≤ c.count → c.count ≤ 65536 → c.xfer ≤ c.count →
          t.ff = ff ∧ t.channel? h = some c) ∧
        (h = s.cfg.dmaCh ∨ 2 ^ s.cfg.paddrWidth ≤ c.addr ∨ c.count = 0 ∨ 65536 < c.count ∨ c.count < c.xfer →
          t.ff = s.ff ∧ t.channels = s.channels)) ∧
      t = { s with turns := ts, lock := t.lock, ff := t.ff, channels := t.channels }

/-! ### Invariants -/

/-- A built block stays built and at an entry of its listing, so `UPC` is at most 31 while BUSY (R24, R54, R91,
R138). -/
def Obligations.ControlKept : Prop :=
  ∀ s t : State, s.Control → step s = .next t →
    t.Control ∧ t.cfg = s.cfg ∧ t.ucode = s.ucode ∧ (t.seq = .busy → t.upc ≤ 31)

/-- The staging buffer's invariant is kept by every step of every agent: `OFFSET ≤ CAP` (R249), and `OFFSET < CAP`
whenever the block is idle (R250). -/
def Obligations.StagingKept : Prop :=
  ∀ s t : State, s.Control → s.Staging → step s = .next t → t.Staging

/-- The lock's discipline is kept by every step, and under it no step records `F_LOCK_STATE` or
`F_FLIPFLOP_NOT_CLEARED` (R211, R212, R213). -/
def Obligations.LockDisciplineKept : Prop :=
  ∀ s t : State, s.Control → s.LockHeld → step s = .next t →
    t.LockHeld ∧ (s.seq ≠ .halted → t.fault ≠ s.fault →
      t.fault ≠ some .lockState ∧ t.fault ≠ some .flipFlopNotCleared)

/-- The handshake with the DSP is kept by every step: a READY DSP is not busy at an `OUT WDATA`, and a DSP that is not
UNKNOWN has a byte at an `IN` (R156, R337, R338). -/
def Obligations.HandshakeKept : Prop :=
  ∀ s t : State, s.Control → s.Handshake → step s = .next t → t.Handshake

/-- The DMA region's invariant is kept by every step: the channel stays masked while it is reconfigured (R214), and a
channel `DMA_CH` that may move bytes is in single-cycle memory-to-device mode (R47, R275) with a region inside physical
memory and one 64 KiB block (R77, R202). -/
def Obligations.RegionKept : Prop :=
  ∀ s t : State, s.Control → s.LockHeld → s.Region → step s = .next t → t.Region

/-- From a safe state every step of every agent answers a next state, and it is safe: a built block never stops, under
any interleaving and any draws. -/
def Obligations.SafeNeverStops : Prop :=
  ∀ s : State, s.Safe → ∃ t, step s = .next t ∧ t.Safe

/-- Whatever steps in a built block whose DMA region has passed its check, `PADDR` (R30), `ACC` and `I` (R32), `ADDR`,
`COUNT` and `XFER` of every channel (R48, R49), the DSP's session (R55) and the addresses of physical memory (R70) stay
in their ranges, and memory keeps its canonical form. -/
def Obligations.WidthsKept : Prop :=
  ∀ s t : State, s.Control → s.Region → s.InWidth → step s = .next t → t.InWidth

/-- The trace only grows, and `TRIGGERS` counts its `LOG(INTENT, ·)` events: every step of every agent appends the
events of that step, leaves those before them as they are, and adds to `TRIGGERS` the intents among them (R52, R57,
R177, R234). -/
def Obligations.TraceGrowsTriggersCount : Prop :=
  ∀ s t : State, step s = .next t →
    ∃ es, t.trace = s.trace ++ es ∧ t.triggers = s.triggers + State.intents es

/-- Memory is written by `COPY` alone, one byte, at `BUF_PADDR + OFFSET + I`: whatever steps, no other byte is written,
and every other byte memory holds, written or come upon by a read, reads as before, so that each unwritten byte has its
one reset value (R66, R70, R72, R81, R87, R279). In a safe state the byte written is one of `BUF`. -/
def Obligations.OnlyCopyWritesMemory : Prop :=
  ∀ s t : State, step s = .next t →
    (∀ a, (t.mem.read a ≠ s.mem.read a ∨ ∃ x, s.byteAt a = some x ∧ t.byteAt a ≠ some x) →
      s.seq = .busy ∧ s.fetchInstr = some .copy ∧ a = s.cfg.bufPaddr + s.offset + s.idx) ∧
    (s.Control → s.Staging → ∀ a, t.mem.read a ≠ s.mem.read a →
      s.cfg.bufPaddr ≤ a ∧ a < s.cfg.bufPaddr + s.cfg.cap)

/-! ### Whole requests -/

/-- `DSP_RESET` run to its end (R173, R175) with a DSP that presents 0xAA at its first boot step: whatever the DSP's
state before, seven sequencer steps give the response OK, the trace R175 (a) and (b) states, and a ready DSP: READY,
nothing pending, its byte consumed, no session; and with no fault recorded the program of this one request has ended
well (R141). -/
def Obligations.ResetRunReadiesDsp : Prop :=
  ∀ (s : State) (ts : List Turn),
    s.Built → s.seq = .idle →
    s.turns = [.host [0x01], .sequencer, .sequencer, .sequencer, .dsp .presentReady, .sequencer, .sequencer,
      .sequencer, .sequencer] ++ ts →
    ∃ t, Sys2Proof.core.run 9 s = .next t ∧ t.resp = .ok ∧ t.seq = .idle ∧ State.ReadyDsp t.dsp ∧ t.v = 0xAA ∧
      (∃ x : Byte, x.getLsbD 7 = true ∧ t.trace = s.trace ++
        [.req 0x01 [], .pw .reset 0x01, .dly s.cfg.resetPulseUs, .pw .reset 0x00, .pr .rstatus x, .pr .rdata 0xAA,
          .rsp .ok]) ∧
      (s.fault = none → State.EndsWell [.dspReset] s t) ∧
      t.mem = s.mem ∧ t.memReset = s.memReset ∧ t.offset = s.offset ∧ t.channels = s.channels ∧ t.lock = s.lock ∧
      t.triggers = s.triggers

/-- `DSP_QUERY_VERSION` run to its end with a ready DSP that draws the version `maj`, `min` (R176, R181): one WDATA
write, 0xE1; the response and the log carry the two bytes, major first. -/
def Obligations.VersionRunReadsMajorFirst : Prop :=
  ∀ (s : State) (ts : List Turn) (d0 d1 d2 d3 maj min : Byte) (ds : List Byte),
    s.Built → s.seq = .idle → State.ReadyDsp s.dsp → d1.getLsbD 0 = false →
    s.draws = [d0, d1, maj, min, d2, d3] ++ ds →
    s.turns = [.host [0x02], .sequencer, .sequencer, .dsp .presentOutput, .sequencer, .sequencer,
      .dsp .presentOutput, .sequencer, .sequencer, .sequencer, .sequencer] ++ ts →
    ∃ t, Sys2Proof.core.run 11 s = .next t ∧ t.resp = .version maj min ∧ t.seq = .idle ∧ t.maj = maj ∧
      t.min = min ∧ State.ReadyDsp t.dsp ∧
      (t.trace.drop s.trace.length).filterMap (fun e => match e with
        | .pw .wdata x => some x
        | _ => none) = [0xE1] ∧
      t.trace.getLast? = some (.rsp (.version maj min)) ∧ .logVersion maj min ∈ t.trace

/-- `START_PLAYBACK` run to its end with a free lock and a ready DSP that is never busy (R231 to R235): the DSP is told
to start after the channel is armed, the seven bytes go out in the order of R180, one intent is logged, the lock is
free again, and channel and chip agree on the length; and with no fault recorded the program of this one request has
ended well (R141). -/
def Obligations.PlaybackRunArmsThenStarts : Prop :=
  ∀ (s : State) (ts : List Turn) (paddr : Nat) (count : Count) (rate : Word16) (ds : List Byte),
    s.Built → s.seq = .idle → State.ReadyDsp s.dsp → s.lock = .free →
    1 ≤ count.toNat → count.toNat ≤ 65536 → paddr + count.toNat ≤ 2 ^ s.cfg.paddrWidth →
    paddr % 65536 + count.toNat ≤ 65536 →
    s.draws = List.replicate 14 0 ++ ds →
    s.turns = .host [0x07, paddr, count.toNat, rate.toNat] :: List.replicate 26 .sequencer ++ ts →
    ∃ t, Sys2Proof.core.run 27 s = .next t ∧ t.resp = .ok ∧ t.seq = .idle ∧ t.lock = .free ∧ t.ff = .cleared ∧
      t.triggers = s.triggers + 1 ∧ t.mem = s.mem ∧ t.memReset = s.memReset ∧ t.offset = s.offset ∧
      t.channel? s.cfg.dmaCh =
        some { mask := false, mode := .singleM2D, addr := paddr, count := count.toNat, xfer := 0 } ∧
      t.dsp.rate = rate ∧ t.dsp.sess = some { mode := s.cfg.modeByte, len := count.toNat, done := 0 } ∧
      (s.fault = none → State.EndsWell [.startPlayback paddr count rate] s t) ∧
      t.trace = s.trace ++
        [.req 0x07 [paddr, count.toNat, rate.toNat], .logIntent paddr count rate, .dma .lock,
          .dma (.disable s.cfg.dmaCh), .dma (.clrff s.cfg.dmaCh), .dma (.mode s.cfg.dmaCh .singleM2D),
          .dma (.addr s.cfg.dmaCh paddr), .dma (.count s.cfg.dmaCh count), .dma (.enable s.cfg.dmaCh), .dma .unlock,
          .pr .wstatus 0, .pw .wdata 0x41, .pr .wstatus 0, .pw .wdata (BitVec.ofNat 8 (rate.toNat / 256)),
          .pr .wstatus 0, .pw .wdata (BitVec.ofNat 8 (rate.toNat % 256)), .pr .wstatus 0, .pw .wdata 0xC0,
          .pr .wstatus 0, .pw .wdata s.cfg.modeByte,
          .pr .wstatus 0, .pw .wdata (BitVec.ofNat 8 ((count.toNat - 1) % 256)),
          .pr .wstatus 0, .pw .wdata (BitVec.ofNat 8 ((count.toNat - 1) / 256)), .rsp .ok]

/-- A `SUBMIT` that does not fill the buffer, run to its end by the sequencer alone (R241, R248): it accepts all `k`
bytes, they are in `BUF` from the old offset on and every other byte of memory reads as before, the offset is advanced
by `k`, and no trigger fires. -/
def Obligations.SubmitRunCopiesBytes : Prop :=
  ∀ (s : State) (ts : List Turn) (src : List Byte),
    s.Built → s.seq = .idle → s.offset + src.length < s.cfg.cap →
    s.turns = .host (0x08 :: src.length :: src.map BitVec.toNat)
      :: List.replicate (max 1 src.length + 4) .sequencer ++ ts →
    ∃ t, Sys2Proof.core.run (max 1 src.length + 5) s = .next t ∧ t.resp = .accepted src.length ∧ t.seq = .idle ∧
      t.offset = s.offset + src.length ∧ t.triggers = s.triggers ∧
      (∀ j x, src[j]? = some x → t.mem.read (s.cfg.bufPaddr + s.offset + j) = some x) ∧
      (∀ a, a < s.cfg.bufPaddr + s.offset ∨ s.cfg.bufPaddr + s.offset + src.length ≤ a →
        t.mem.read a = s.mem.read a) ∧ t.memReset = s.memReset ∧
      t.dsp = s.dsp ∧ t.channels = s.channels ∧ t.lock = s.lock

/-- A `SUBMIT` that fills the buffer, run to its end with a free lock and a ready DSP that is never busy (R241, R248,
R250, R251): it accepts the `a = CAP - OFFSET` bytes there is room for, they are in `BUF` from the old offset on and
every other byte of memory reads as before; exactly one trigger fires, of the whole buffer, which leaves channel
`DMA_CH` armed and the DSP with a session of `CAP` bytes; and the offset is 0 again. -/
def Obligations.SubmitRunFiresTrigger : Prop :=
  ∀ (s : State) (ts : List Turn) (src : List Byte) (ds : List Byte) (a : Nat),
    s.Built → s.seq = .idle → s.offset + a = s.cfg.cap → 0 < a → a ≤ src.length → State.ReadyDsp s.dsp →
    s.lock = .free → s.draws = List.replicate 14 0 ++ ds →
    s.turns = .host (0x08 :: src.length :: src.map BitVec.toNat) :: List.replicate (a + 31) .sequencer ++ ts →
    ∃ t, Sys2Proof.core.run (a + 32) s = .next t ∧ t.resp = .accepted a ∧ t.seq = .idle ∧ t.offset = 0 ∧
      (∀ j x, j < a → src[j]? = some x → t.mem.read (s.cfg.bufPaddr + s.offset + j) = some x) ∧
      (∀ b, b < s.cfg.bufPaddr + s.offset ∨ s.cfg.bufPaddr + s.cfg.cap ≤ b → t.mem.read b = s.mem.read b) ∧
      t.memReset = s.memReset ∧ t.triggers = s.triggers + 1 ∧
      (∃ es es', t.trace = s.trace ++ es ++
        .logIntent s.cfg.bufPaddr (BitVec.ofNat 17 s.cfg.cap) s.cfg.sampleRate :: es' ∧
        State.intents es = 0 ∧ State.intents es' = 0) ∧
      t.lock = .free ∧
      t.channel? s.cfg.dmaCh =
        some { mask := false, mode := .singleM2D, addr := s.cfg.bufPaddr, count := s.cfg.cap, xfer := 0 } ∧
      t.dsp.rate = s.cfg.sampleRate ∧ t.dsp.sess = some { mode := s.cfg.modeByte, len := s.cfg.cap, done := 0 }

/-- A session plays its region (R275, R277, R278, R284): from a READY DSP with a fresh session of `n` bytes and channel
`DMA_CH` armed in single-cycle memory-to-device mode for the same `n` bytes, `n` transfer steps emit exactly the `n`
events XFER of addresses `ADDR`, `ADDR + 1`, … in this order, with the bytes memory holds, and end with the session over
and the channel masked. -/
def Obligations.SessionPlaysRegion : Prop :=
  ∀ (s : State) (ts : List Turn) (c : Channel) (z : Session) (bs : List Byte),
    s.dsp.st = .ready → s.dsp.sess = some z → z.done = 0 → z.len = bs.length → bs ≠ [] →
    s.channel? s.cfg.dmaCh = some c → c.mask = false → c.mode = .singleM2D → c.xfer = 0 → c.count = bs.length →
    c.addr + bs.length ≤ 2 ^ s.cfg.paddrWidth →
    (∀ j x, bs[j]? = some x → s.byteAt (c.addr + j) = some x) →
    s.turns = List.replicate bs.length (.dsp .transfer) ++ ts →
    ∃ t, Sys2Proof.core.run bs.length s = .next t ∧ t.dsp.sess = none ∧
      (∃ r, t.channel? s.cfg.dmaCh = some r ∧ r.mask = true ∧ r.xfer = bs.length) ∧
      t.trace = s.trace ++ bs.mapIdx (fun j x => .xfer s.cfg.dmaCh (c.addr + j) x) ∧
      t.mem = s.mem ∧ t.memReset = s.memReset
end

