-- ==== Sys2Proof/Laws/Decode.lean ====
section
/-! SUPPORT. The small laws of the encodings: fields, byte sequences, and the two bytes of a 16-bit value. -/

namespace Sys2Proof

/-- A field holds a value of its own type. -/
@[simp] theorem field_toNat (n : Nat) (x : BitVec n) : field n x.toNat = some x := by
  simp [field, x.isLt]

/-- A word too large for a field is no value of it. -/
theorem field_none {n w : Nat} (h : 2 ^ n ≤ w) : field n w = none := by
  simp [field, Nat.not_lt.mpr h]

/-- What a field reads is the word. -/
theorem toNat_of_field {n w : Nat} {x : BitVec n} (h : field n w = some x) : x.toNat = w := by
  unfold field at h
  split at h
  · cases h
    rw [BitVec.toNat_ofNat, Nat.mod_eq_of_lt ‹_›]
  · cases h

/-- A byte sequence is read back from its words. -/
@[simp] theorem byteList_map_toNat (bs : List Byte) : byteList (bs.map BitVec.toNat) = some bs := by
  induction bs with
  | nil => rfl
  | cons x xs ih => simp [byteList, ih]

/-- What a byte sequence is read from are its words. -/
theorem map_toNat_of_byteList {ws : List Nat} {bs : List Byte} (h : byteList ws = some bs) :
    bs.map BitVec.toNat = ws := by
  induction ws generalizing bs with
  | nil => cases h; rfl
  | cons w ws ih =>
    unfold byteList at h
    split at h
    · rename_i x xs hx hxs
      cases h
      simp [ih hxs, toNat_of_field hx]
    · cases h

/-- The value of a 16-bit word is its high byte times 256 plus its low byte (R104). -/
theorem word16_toNat (h l : Byte) : (word16 h l).toNat = h.toNat * 256 + l.toNat := by
  have := l.isLt
  simp only [word16, BitVec.toNat_append, Nat.shiftLeft_eq]
  rw [show (2 : Nat) ^ 8 = 256 from rfl]
  have hd : h.toNat * 256 = 2 ^ 8 * h.toNat := by omega
  rw [hd, ← Nat.two_pow_add_eq_or_of_lt this]

/-- `hi(v)` is the value divided by 256. -/
theorem hiByte_toNat (v : Word16) : (hiByte v).toNat = v.toNat / 256 := by
  have := v.isLt
  simp only [hiByte, BitVec.extractLsb'_toNat, Nat.shiftRight_eq_div_pow]
  omega

/-- `lo(v)` is the value modulo 256. -/
theorem loByte_toNat (v : Word16) : (loByte v).toNat = v.toNat % 256 := by
  simp [loByte, BitVec.extractLsb'_toNat]

/-- A 16-bit value is made of its two bytes. -/
@[simp] theorem word16_hi_lo (v : Word16) : word16 (hiByte v) (loByte v) = v := by
  apply BitVec.eq_of_toNat_eq
  rw [word16_toNat, hiByte_toNat, loByte_toNat]
  omega

@[simp] theorem hiByte_word16 (h l : Byte) : hiByte (word16 h l) = h := by
  apply BitVec.eq_of_toNat_eq
  rw [hiByte_toNat, word16_toNat]
  have := l.isLt
  omega

@[simp] theorem loByte_word16 (h l : Byte) : loByte (word16 h l) = l := by
  apply BitVec.eq_of_toNat_eq
  rw [loByte_toNat, word16_toNat]
  have := l.isLt
  omega

/-- An enumerated field is read back from its code. -/
@[simp] theorem OutReg.ofCode_code (r : OutReg) : OutReg.ofCode r.code = some r := by cases r <;> rfl

@[simp] theorem InDest.ofCode_code (d : InDest) : InDest.ofCode d.code = some d := by cases d <;> rfl

@[simp] theorem EndSource.ofCode_code (e : EndSource) : EndSource.ofCode e.code = some e := by cases e <;> rfl

@[simp] theorem LogKind.ofCode_code (k : LogKind) : LogKind.ofCode k.code = some k := by cases k <;> rfl

@[simp] theorem ByteSource.ofCode_code (x : ByteSource) : ByteSource.ofCode x.code = some x := by
  cases x with
  | imm b => simp only [ByteSource.ofCode, ByteSource.code, field_toNat]
  | _ => rfl

end Sys2Proof
end

