-- ==== Sys2Proof/Laws/Memory.lean ====
section
/-! SUPPORT. The laws of memory: a read after a write, and the canonical form every memory operation keeps. -/

namespace Sys2Proof.Machine.Memory

/-- A read after a write to the same address gives the byte written. -/
@[simp] theorem read_write_same (m : Memory) (a : Nat) (x : Byte) : (m.write a x).read a = some x := by
  induction m with
  | nil => simp [write, read]
  | cons e m ih =>
    obtain ⟨a', b'⟩ := e
    unfold write
    split
    · simp [read]
    · split
      · simp [read]
      · rename_i h₁ h₂
        simp only [read, List.lookup_cons, beq_eq_false_iff_ne.mpr h₂]
        exact ih

/-- A write leaves every other address alone. -/
theorem read_write_other (m : Memory) {a c : Nat} (x : Byte) (h : c ≠ a) : (m.write a x).read c = m.read c := by
  induction m with
  | nil => simp [write, read, h]
  | cons e m ih =>
    obtain ⟨a', b'⟩ := e
    unfold write
    split
    · simp [read, List.lookup_cons, beq_eq_false_iff_ne.mpr h]
    · split
      · rename_i h₁ h₂
        subst h₂
        simp [read, List.lookup_cons, beq_eq_false_iff_ne.mpr h]
      · simp only [read, List.lookup_cons]
        split
        · rfl
        · exact ih

/-- The addresses a write lists are the old ones and the one written. -/
theorem mem_keys_write (m : Memory) (a : Nat) (x : Byte) (c : Nat) (h : c ∈ (m.write a x).map Prod.fst) :
    c = a ∨ c ∈ m.map Prod.fst := by
  induction m with
  | nil => simpa [write] using h
  | cons e m ih =>
    obtain ⟨a', b'⟩ := e
    unfold write at h
    split at h
    · simpa using h
    · split at h
      · rename_i h₂
        simp only [List.map_cons, List.mem_cons] at h ⊢
        tauto
      · simp only [List.map_cons, List.mem_cons] at h ⊢
        rcases h with h | h
        · exact .inr (.inl h)
        · rcases ih h with h | h
          · exact .inl h
          · exact .inr (.inr h)

/-- A write keeps the canonical form. -/
theorem write_wf (m : Memory) (a : Nat) (x : Byte) (h : m.wf) : (m.write a x).wf := by
  induction m with
  | nil => simp [write, wf]
  | cons e m ih =>
    obtain ⟨a', b'⟩ := e
    simp only [wf, List.map_cons, List.pairwise_cons] at h
    unfold write
    split
    · rename_i h₁
      simp only [wf, List.map_cons, List.pairwise_cons, List.mem_cons]
      refine ⟨?_, h⟩
      rintro c (rfl | hc)
      · exact h₁
      · exact lt_trans h₁ (h.1 c hc)
    · split
      · rename_i h₂
        subst h₂
        simpa [wf] using h
      · rename_i h₁ h₂
        simp only [wf, List.map_cons, List.pairwise_cons]
        refine ⟨?_, ih h.2⟩
        intro c hc
        rcases mem_keys_write m a x c hc with rfl | hc
        · omega
        · exact h.1 c hc

/-- Equal reads and canonical forms make equal memories: what a canonical memory lists is what it reads as. -/
theorem mem_iff_read {m : Memory} (h : m.wf) (a : Nat) (x : Byte) : (a, x) ∈ m ↔ m.read a = some x := by
  induction m with
  | nil => simp [read]
  | cons e m ih =>
    obtain ⟨a', b'⟩ := e
    simp only [wf, List.map_cons, List.pairwise_cons] at h
    simp only [List.mem_cons, Prod.mk.injEq, read, List.lookup_cons]
    by_cases e : a = a'
    · subst e
      have : (a, x) ∉ m := fun hm => by
        have := h.1 a (List.mem_map_of_mem (f := Prod.fst) hm)
        omega
      simp only [this, or_false, true_and, beq_self_eq_true]
      constructor
      · intro hx; rw [hx]
      · intro hx; exact (Option.some.inj hx).symm
    · simp only [e, false_and, false_or, beq_eq_false_iff_ne.mpr e]
      exact ih h.2

end Sys2Proof.Machine.Memory
end

