-- ==== Sys2Proof/Laws/State.lean ====
section
/-! SUPPORT. One lemma per field of State per basic update, true by rfl, so that no later proof unfolds a record
update; and the same for the operations that look at a list first. -/

namespace Sys2Proof.Machine.State

/-! ### `emit` -/

@[simp] theorem emit_cfg (s : State) (e : Event) : (s.emit e).cfg = s.cfg := rfl
@[simp] theorem emit_ucode (s : State) (e : Event) : (s.emit e).ucode = s.ucode := rfl
@[simp] theorem emit_seq (s : State) (e : Event) : (s.emit e).seq = s.seq := rfl
@[simp] theorem emit_sel (s : State) (e : Event) : (s.emit e).sel = s.sel := rfl
@[simp] theorem emit_upc (s : State) (e : Event) : (s.emit e).upc = s.upc := rfl
@[simp] theorem emit_v (s : State) (e : Event) : (s.emit e).v = s.v := rfl
@[simp] theorem emit_maj (s : State) (e : Event) : (s.emit e).maj = s.maj := rfl
@[simp] theorem emit_min (s : State) (e : Event) : (s.emit e).min = s.min := rfl
@[simp] theorem emit_b (s : State) (e : Event) : (s.emit e).b = s.b := rfl
@[simp] theorem emit_rate (s : State) (e : Event) : (s.emit e).rate = s.rate := rfl
@[simp] theorem emit_cnt (s : State) (e : Event) : (s.emit e).cnt = s.cnt := rfl
@[simp] theorem emit_paddr (s : State) (e : Event) : (s.emit e).paddr = s.paddr := rfl
@[simp] theorem emit_ch (s : State) (e : Event) : (s.emit e).ch = s.ch := rfl
@[simp] theorem emit_k (s : State) (e : Event) : (s.emit e).k = s.k := rfl
@[simp] theorem emit_src (s : State) (e : Event) : (s.emit e).src = s.src := rfl
@[simp] theorem emit_acc (s : State) (e : Event) : (s.emit e).acc = s.acc := rfl
@[simp] theorem emit_idx (s : State) (e : Event) : (s.emit e).idx = s.idx := rfl
@[simp] theorem emit_polls (s : State) (e : Event) : (s.emit e).polls = s.polls := rfl
@[simp] theorem emit_retries (s : State) (e : Event) : (s.emit e).retries = s.retries := rfl
@[simp] theorem emit_resp (s : State) (e : Event) : (s.emit e).resp = s.resp := rfl
@[simp] theorem emit_fault (s : State) (e : Event) : (s.emit e).fault = s.fault := rfl
@[simp] theorem emit_faultInfo (s : State) (e : Event) : (s.emit e).faultInfo = s.faultInfo := rfl
@[simp] theorem emit_offset (s : State) (e : Event) : (s.emit e).offset = s.offset := rfl
@[simp] theorem emit_triggers (s : State) (e : Event) : (s.emit e).triggers = s.triggers := rfl
@[simp] theorem emit_mem (s : State) (e : Event) : (s.emit e).mem = s.mem := rfl
@[simp] theorem emit_memReset (s : State) (e : Event) : (s.emit e).memReset = s.memReset := rfl
@[simp] theorem emit_dsp (s : State) (e : Event) : (s.emit e).dsp = s.dsp := rfl
@[simp] theorem emit_channels (s : State) (e : Event) : (s.emit e).channels = s.channels := rfl
@[simp] theorem emit_ff (s : State) (e : Event) : (s.emit e).ff = s.ff := rfl
@[simp] theorem emit_lock (s : State) (e : Event) : (s.emit e).lock = s.lock := rfl
@[simp] theorem emit_trace (s : State) (e : Event) : (s.emit e).trace = s.trace ++ [e] := rfl
@[simp] theorem emit_turns (s : State) (e : Event) : (s.emit e).turns = s.turns := rfl
@[simp] theorem emit_draws (s : State) (e : Event) : (s.emit e).draws = s.draws := rfl
@[simp] theorem emit_tick (s : State) (e : Event) : (s.emit e).tick = s.tick := rfl

/-! ### `advance` -/

@[simp] theorem advance_cfg (s : State) : (s.advance).cfg = s.cfg := rfl
@[simp] theorem advance_ucode (s : State) : (s.advance).ucode = s.ucode := rfl
@[simp] theorem advance_seq (s : State) : (s.advance).seq = s.seq := rfl
@[simp] theorem advance_sel (s : State) : (s.advance).sel = s.sel := rfl
@[simp] theorem advance_upc (s : State) : (s.advance).upc = s.upc + 1 := rfl
@[simp] theorem advance_v (s : State) : (s.advance).v = s.v := rfl
@[simp] theorem advance_maj (s : State) : (s.advance).maj = s.maj := rfl
@[simp] theorem advance_min (s : State) : (s.advance).min = s.min := rfl
@[simp] theorem advance_b (s : State) : (s.advance).b = s.b := rfl
@[simp] theorem advance_rate (s : State) : (s.advance).rate = s.rate := rfl
@[simp] theorem advance_cnt (s : State) : (s.advance).cnt = s.cnt := rfl
@[simp] theorem advance_paddr (s : State) : (s.advance).paddr = s.paddr := rfl
@[simp] theorem advance_ch (s : State) : (s.advance).ch = s.ch := rfl
@[simp] theorem advance_k (s : State) : (s.advance).k = s.k := rfl
@[simp] theorem advance_src (s : State) : (s.advance).src = s.src := rfl
@[simp] theorem advance_acc (s : State) : (s.advance).acc = s.acc := rfl
@[simp] theorem advance_idx (s : State) : (s.advance).idx = s.idx := rfl
@[simp] theorem advance_polls (s : State) : (s.advance).polls = 0 := rfl
@[simp] theorem advance_retries (s : State) : (s.advance).retries = s.retries := rfl
@[simp] theorem advance_resp (s : State) : (s.advance).resp = s.resp := rfl
@[simp] theorem advance_fault (s : State) : (s.advance).fault = s.fault := rfl
@[simp] theorem advance_faultInfo (s : State) : (s.advance).faultInfo = s.faultInfo := rfl
@[simp] theorem advance_offset (s : State) : (s.advance).offset = s.offset := rfl
@[simp] theorem advance_triggers (s : State) : (s.advance).triggers = s.triggers := rfl
@[simp] theorem advance_mem (s : State) : (s.advance).mem = s.mem := rfl
@[simp] theorem advance_memReset (s : State) : (s.advance).memReset = s.memReset := rfl
@[simp] theorem advance_dsp (s : State) : (s.advance).dsp = s.dsp := rfl
@[simp] theorem advance_channels (s : State) : (s.advance).channels = s.channels := rfl
@[simp] theorem advance_ff (s : State) : (s.advance).ff = s.ff := rfl
@[simp] theorem advance_lock (s : State) : (s.advance).lock = s.lock := rfl
@[simp] theorem advance_trace (s : State) : (s.advance).trace = s.trace := rfl
@[simp] theorem advance_turns (s : State) : (s.advance).turns = s.turns := rfl
@[simp] theorem advance_draws (s : State) : (s.advance).draws = s.draws := rfl
@[simp] theorem advance_tick (s : State) : (s.advance).tick = s.tick := rfl

/-! ### `branch` -/

@[simp] theorem branch_cfg (s : State) (t : Nat) : (s.branch t).cfg = s.cfg := rfl
@[simp] theorem branch_ucode (s : State) (t : Nat) : (s.branch t).ucode = s.ucode := rfl
@[simp] theorem branch_seq (s : State) (t : Nat) : (s.branch t).seq = s.seq := rfl
@[simp] theorem branch_sel (s : State) (t : Nat) : (s.branch t).sel = s.sel := rfl
@[simp] theorem branch_upc (s : State) (t : Nat) : (s.branch t).upc = t := rfl
@[simp] theorem branch_v (s : State) (t : Nat) : (s.branch t).v = s.v := rfl
@[simp] theorem branch_maj (s : State) (t : Nat) : (s.branch t).maj = s.maj := rfl
@[simp] theorem branch_min (s : State) (t : Nat) : (s.branch t).min = s.min := rfl
@[simp] theorem branch_b (s : State) (t : Nat) : (s.branch t).b = s.b := rfl
@[simp] theorem branch_rate (s : State) (t : Nat) : (s.branch t).rate = s.rate := rfl
@[simp] theorem branch_cnt (s : State) (t : Nat) : (s.branch t).cnt = s.cnt := rfl
@[simp] theorem branch_paddr (s : State) (t : Nat) : (s.branch t).paddr = s.paddr := rfl
@[simp] theorem branch_ch (s : State) (t : Nat) : (s.branch t).ch = s.ch := rfl
@[simp] theorem branch_k (s : State) (t : Nat) : (s.branch t).k = s.k := rfl
@[simp] theorem branch_src (s : State) (t : Nat) : (s.branch t).src = s.src := rfl
@[simp] theorem branch_acc (s : State) (t : Nat) : (s.branch t).acc = s.acc := rfl
@[simp] theorem branch_idx (s : State) (t : Nat) : (s.branch t).idx = s.idx := rfl
@[simp] theorem branch_polls (s : State) (t : Nat) : (s.branch t).polls = 0 := rfl
@[simp] theorem branch_retries (s : State) (t : Nat) : (s.branch t).retries = s.retries := rfl
@[simp] theorem branch_resp (s : State) (t : Nat) : (s.branch t).resp = s.resp := rfl
@[simp] theorem branch_fault (s : State) (t : Nat) : (s.branch t).fault = s.fault := rfl
@[simp] theorem branch_faultInfo (s : State) (t : Nat) : (s.branch t).faultInfo = s.faultInfo := rfl
@[simp] theorem branch_offset (s : State) (t : Nat) : (s.branch t).offset = s.offset := rfl
@[simp] theorem branch_triggers (s : State) (t : Nat) : (s.branch t).triggers = s.triggers := rfl
@[simp] theorem branch_mem (s : State) (t : Nat) : (s.branch t).mem = s.mem := rfl
@[simp] theorem branch_memReset (s : State) (t : Nat) : (s.branch t).memReset = s.memReset := rfl
@[simp] theorem branch_dsp (s : State) (t : Nat) : (s.branch t).dsp = s.dsp := rfl
@[simp] theorem branch_channels (s : State) (t : Nat) : (s.branch t).channels = s.channels := rfl
@[simp] theorem branch_ff (s : State) (t : Nat) : (s.branch t).ff = s.ff := rfl
@[simp] theorem branch_lock (s : State) (t : Nat) : (s.branch t).lock = s.lock := rfl
@[simp] theorem branch_trace (s : State) (t : Nat) : (s.branch t).trace = s.trace := rfl
@[simp] theorem branch_turns (s : State) (t : Nat) : (s.branch t).turns = s.turns := rfl
@[simp] theorem branch_draws (s : State) (t : Nat) : (s.branch t).draws = s.draws := rfl
@[simp] theorem branch_tick (s : State) (t : Nat) : (s.branch t).tick = s.tick := rfl

/-! ### `finish` -/

@[simp] theorem finish_cfg (s : State) (r : Response) : (s.finish r).cfg = s.cfg := rfl
@[simp] theorem finish_ucode (s : State) (r : Response) : (s.finish r).ucode = s.ucode := rfl
@[simp] theorem finish_seq (s : State) (r : Response) : (s.finish r).seq = .idle := rfl
@[simp] theorem finish_sel (s : State) (r : Response) : (s.finish r).sel = s.sel := rfl
@[simp] theorem finish_upc (s : State) (r : Response) : (s.finish r).upc = s.upc := rfl
@[simp] theorem finish_v (s : State) (r : Response) : (s.finish r).v = s.v := rfl
@[simp] theorem finish_maj (s : State) (r : Response) : (s.finish r).maj = s.maj := rfl
@[simp] theorem finish_min (s : State) (r : Response) : (s.finish r).min = s.min := rfl
@[simp] theorem finish_b (s : State) (r : Response) : (s.finish r).b = s.b := rfl
@[simp] theorem finish_rate (s : State) (r : Response) : (s.finish r).rate = s.rate := rfl
@[simp] theorem finish_cnt (s : State) (r : Response) : (s.finish r).cnt = s.cnt := rfl
@[simp] theorem finish_paddr (s : State) (r : Response) : (s.finish r).paddr = s.paddr := rfl
@[simp] theorem finish_ch (s : State) (r : Response) : (s.finish r).ch = s.ch := rfl
@[simp] theorem finish_k (s : State) (r : Response) : (s.finish r).k = s.k := rfl
@[simp] theorem finish_src (s : State) (r : Response) : (s.finish r).src = s.src := rfl
@[simp] theorem finish_acc (s : State) (r : Response) : (s.finish r).acc = s.acc := rfl
@[simp] theorem finish_idx (s : State) (r : Response) : (s.finish r).idx = s.idx := rfl
@[simp] theorem finish_polls (s : State) (r : Response) : (s.finish r).polls = s.polls := rfl
@[simp] theorem finish_retries (s : State) (r : Response) : (s.finish r).retries = s.retries := rfl
@[simp] theorem finish_resp (s : State) (r : Response) : (s.finish r).resp = r := rfl
@[simp] theorem finish_fault (s : State) (r : Response) : (s.finish r).fault = s.fault := rfl
@[simp] theorem finish_faultInfo (s : State) (r : Response) : (s.finish r).faultInfo = s.faultInfo := rfl
@[simp] theorem finish_offset (s : State) (r : Response) : (s.finish r).offset = s.offset := rfl
@[simp] theorem finish_triggers (s : State) (r : Response) : (s.finish r).triggers = s.triggers := rfl
@[simp] theorem finish_mem (s : State) (r : Response) : (s.finish r).mem = s.mem := rfl
@[simp] theorem finish_memReset (s : State) (r : Response) : (s.finish r).memReset = s.memReset := rfl
@[simp] theorem finish_dsp (s : State) (r : Response) : (s.finish r).dsp = s.dsp := rfl
@[simp] theorem finish_channels (s : State) (r : Response) : (s.finish r).channels = s.channels := rfl
@[simp] theorem finish_ff (s : State) (r : Response) : (s.finish r).ff = s.ff := rfl
@[simp] theorem finish_lock (s : State) (r : Response) : (s.finish r).lock = s.lock := rfl
@[simp] theorem finish_trace (s : State) (r : Response) : (s.finish r).trace = s.trace ++ [.rsp r] := rfl
@[simp] theorem finish_turns (s : State) (r : Response) : (s.finish r).turns = s.turns := rfl
@[simp] theorem finish_draws (s : State) (r : Response) : (s.finish r).draws = s.draws := rfl
@[simp] theorem finish_tick (s : State) (r : Response) : (s.finish r).tick = s.tick := rfl

/-! ### `halt` -/

@[simp] theorem halt_cfg (s : State) (c : FaultCode) (i : FaultInfo) : (s.halt c i).cfg = s.cfg := rfl
@[simp] theorem halt_ucode (s : State) (c : FaultCode) (i : FaultInfo) : (s.halt c i).ucode = s.ucode := rfl
@[simp] theorem halt_seq (s : State) (c : FaultCode) (i : FaultInfo) : (s.halt c i).seq = .halted := rfl
@[simp] theorem halt_sel (s : State) (c : FaultCode) (i : FaultInfo) : (s.halt c i).sel = s.sel := rfl
@[simp] theorem halt_upc (s : State) (c : FaultCode) (i : FaultInfo) : (s.halt c i).upc = s.upc := rfl
@[simp] theorem halt_v (s : State) (c : FaultCode) (i : FaultInfo) : (s.halt c i).v = s.v := rfl
@[simp] theorem halt_maj (s : State) (c : FaultCode) (i : FaultInfo) : (s.halt c i).maj = s.maj := rfl
@[simp] theorem halt_min (s : State) (c : FaultCode) (i : FaultInfo) : (s.halt c i).min = s.min := rfl
@[simp] theorem halt_b (s : State) (c : FaultCode) (i : FaultInfo) : (s.halt c i).b = s.b := rfl
@[simp] theorem halt_rate (s : State) (c : FaultCode) (i : FaultInfo) : (s.halt c i).rate = s.rate := rfl
@[simp] theorem halt_cnt (s : State) (c : FaultCode) (i : FaultInfo) : (s.halt c i).cnt = s.cnt := rfl
@[simp] theorem halt_paddr (s : State) (c : FaultCode) (i : FaultInfo) : (s.halt c i).paddr = s.paddr := rfl
@[simp] theorem halt_ch (s : State) (c : FaultCode) (i : FaultInfo) : (s.halt c i).ch = s.ch := rfl
@[simp] theorem halt_k (s : State) (c : FaultCode) (i : FaultInfo) : (s.halt c i).k = s.k := rfl
@[simp] theorem halt_src (s : State) (c : FaultCode) (i : FaultInfo) : (s.halt c i).src = s.src := rfl
@[simp] theorem halt_acc (s : State) (c : FaultCode) (i : FaultInfo) : (s.halt c i).acc = s.acc := rfl
@[simp] theorem halt_idx (s : State) (c : FaultCode) (i : FaultInfo) : (s.halt c i).idx = s.idx := rfl
@[simp] theorem halt_polls (s : State) (c : FaultCode) (i : FaultInfo) : (s.halt c i).polls = s.polls := rfl
@[simp] theorem halt_retries (s : State) (c : FaultCode) (i : FaultInfo) : (s.halt c i).retries = s.retries := rfl
@[simp] theorem halt_resp (s : State) (c : FaultCode) (i : FaultInfo) : (s.halt c i).resp = s.resp := rfl
@[simp] theorem halt_fault (s : State) (c : FaultCode) (i : FaultInfo) : (s.halt c i).fault = some c := rfl
@[simp] theorem halt_faultInfo (s : State) (c : FaultCode) (i : FaultInfo) : (s.halt c i).faultInfo = i := rfl
@[simp] theorem halt_offset (s : State) (c : FaultCode) (i : FaultInfo) : (s.halt c i).offset = s.offset := rfl
@[simp] theorem halt_triggers (s : State) (c : FaultCode) (i : FaultInfo) : (s.halt c i).triggers = s.triggers := rfl
@[simp] theorem halt_mem (s : State) (c : FaultCode) (i : FaultInfo) : (s.halt c i).mem = s.mem := rfl
@[simp] theorem halt_memReset (s : State) (c : FaultCode) (i : FaultInfo) : (s.halt c i).memReset = s.memReset := rfl
@[simp] theorem halt_dsp (s : State) (c : FaultCode) (i : FaultInfo) : (s.halt c i).dsp = s.dsp := rfl
@[simp] theorem halt_channels (s : State) (c : FaultCode) (i : FaultInfo) : (s.halt c i).channels = s.channels := rfl
@[simp] theorem halt_ff (s : State) (c : FaultCode) (i : FaultInfo) : (s.halt c i).ff = s.ff := rfl
@[simp] theorem halt_lock (s : State) (c : FaultCode) (i : FaultInfo) : (s.halt c i).lock = s.lock := rfl
@[simp] theorem halt_trace (s : State) (c : FaultCode) (i : FaultInfo) : (s.halt c i).trace = s.trace ++ [.fault c i] := rfl
@[simp] theorem halt_turns (s : State) (c : FaultCode) (i : FaultInfo) : (s.halt c i).turns = s.turns := rfl
@[simp] theorem halt_draws (s : State) (c : FaultCode) (i : FaultInfo) : (s.halt c i).draws = s.draws := rfl
@[simp] theorem halt_tick (s : State) (c : FaultCode) (i : FaultInfo) : (s.halt c i).tick = s.tick := rfl

/-! ### `raise` -/

@[simp] theorem raise_cfg (s : State) (c : FaultCode) (d : FaultDetail) : (s.raise c d).cfg = s.cfg := rfl
@[simp] theorem raise_ucode (s : State) (c : FaultCode) (d : FaultDetail) : (s.raise c d).ucode = s.ucode := rfl
@[simp] theorem raise_seq (s : State) (c : FaultCode) (d : FaultDetail) : (s.raise c d).seq = .halted := rfl
@[simp] theorem raise_sel (s : State) (c : FaultCode) (d : FaultDetail) : (s.raise c d).sel = s.sel := rfl
@[simp] theorem raise_upc (s : State) (c : FaultCode) (d : FaultDetail) : (s.raise c d).upc = s.upc := rfl
@[simp] theorem raise_v (s : State) (c : FaultCode) (d : FaultDetail) : (s.raise c d).v = s.v := rfl
@[simp] theorem raise_maj (s : State) (c : FaultCode) (d : FaultDetail) : (s.raise c d).maj = s.maj := rfl
@[simp] theorem raise_min (s : State) (c : FaultCode) (d : FaultDetail) : (s.raise c d).min = s.min := rfl
@[simp] theorem raise_b (s : State) (c : FaultCode) (d : FaultDetail) : (s.raise c d).b = s.b := rfl
@[simp] theorem raise_rate (s : State) (c : FaultCode) (d : FaultDetail) : (s.raise c d).rate = s.rate := rfl
@[simp] theorem raise_cnt (s : State) (c : FaultCode) (d : FaultDetail) : (s.raise c d).cnt = s.cnt := rfl
@[simp] theorem raise_paddr (s : State) (c : FaultCode) (d : FaultDetail) : (s.raise c d).paddr = s.paddr := rfl
@[simp] theorem raise_ch (s : State) (c : FaultCode) (d : FaultDetail) : (s.raise c d).ch = s.ch := rfl
@[simp] theorem raise_k (s : State) (c : FaultCode) (d : FaultDetail) : (s.raise c d).k = s.k := rfl
@[simp] theorem raise_src (s : State) (c : FaultCode) (d : FaultDetail) : (s.raise c d).src = s.src := rfl
@[simp] theorem raise_acc (s : State) (c : FaultCode) (d : FaultDetail) : (s.raise c d).acc = s.acc := rfl
@[simp] theorem raise_idx (s : State) (c : FaultCode) (d : FaultDetail) : (s.raise c d).idx = s.idx := rfl
@[simp] theorem raise_polls (s : State) (c : FaultCode) (d : FaultDetail) : (s.raise c d).polls = s.polls := rfl
@[simp] theorem raise_retries (s : State) (c : FaultCode) (d : FaultDetail) : (s.raise c d).retries = s.retries := rfl
@[simp] theorem raise_resp (s : State) (c : FaultCode) (d : FaultDetail) : (s.raise c d).resp = s.resp := rfl
@[simp] theorem raise_fault (s : State) (c : FaultCode) (d : FaultDetail) : (s.raise c d).fault = some c := rfl
@[simp] theorem raise_faultInfo (s : State) (c : FaultCode) (d : FaultDetail) : (s.raise c d).faultInfo = { sel := some s.sel, upc := some s.upc, detail := d } := rfl
@[simp] theorem raise_offset (s : State) (c : FaultCode) (d : FaultDetail) : (s.raise c d).offset = s.offset := rfl
@[simp] theorem raise_triggers (s : State) (c : FaultCode) (d : FaultDetail) : (s.raise c d).triggers = s.triggers := rfl
@[simp] theorem raise_mem (s : State) (c : FaultCode) (d : FaultDetail) : (s.raise c d).mem = s.mem := rfl
@[simp] theorem raise_memReset (s : State) (c : FaultCode) (d : FaultDetail) : (s.raise c d).memReset = s.memReset := rfl
@[simp] theorem raise_dsp (s : State) (c : FaultCode) (d : FaultDetail) : (s.raise c d).dsp = s.dsp := rfl
@[simp] theorem raise_channels (s : State) (c : FaultCode) (d : FaultDetail) : (s.raise c d).channels = s.channels := rfl
@[simp] theorem raise_ff (s : State) (c : FaultCode) (d : FaultDetail) : (s.raise c d).ff = s.ff := rfl
@[simp] theorem raise_lock (s : State) (c : FaultCode) (d : FaultDetail) : (s.raise c d).lock = s.lock := rfl
@[simp] theorem raise_trace (s : State) (c : FaultCode) (d : FaultDetail) : (s.raise c d).trace = s.trace ++ [.fault c { sel := some s.sel, upc := some s.upc, detail := d }] := rfl
@[simp] theorem raise_turns (s : State) (c : FaultCode) (d : FaultDetail) : (s.raise c d).turns = s.turns := rfl
@[simp] theorem raise_draws (s : State) (c : FaultCode) (d : FaultDetail) : (s.raise c d).draws = s.draws := rfl
@[simp] theorem raise_tick (s : State) (c : FaultCode) (d : FaultDetail) : (s.raise c d).tick = s.tick := rfl

/-! ### `raiseIdle` -/

@[simp] theorem raiseIdle_cfg (s : State) (c : FaultCode) (d : FaultDetail) : (s.raiseIdle c d).cfg = s.cfg := rfl
@[simp] theorem raiseIdle_ucode (s : State) (c : FaultCode) (d : FaultDetail) : (s.raiseIdle c d).ucode = s.ucode := rfl
@[simp] theorem raiseIdle_seq (s : State) (c : FaultCode) (d : FaultDetail) : (s.raiseIdle c d).seq = .halted := rfl
@[simp] theorem raiseIdle_sel (s : State) (c : FaultCode) (d : FaultDetail) : (s.raiseIdle c d).sel = s.sel := rfl
@[simp] theorem raiseIdle_upc (s : State) (c : FaultCode) (d : FaultDetail) : (s.raiseIdle c d).upc = s.upc := rfl
@[simp] theorem raiseIdle_v (s : State) (c : FaultCode) (d : FaultDetail) : (s.raiseIdle c d).v = s.v := rfl
@[simp] theorem raiseIdle_maj (s : State) (c : FaultCode) (d : FaultDetail) : (s.raiseIdle c d).maj = s.maj := rfl
@[simp] theorem raiseIdle_min (s : State) (c : FaultCode) (d : FaultDetail) : (s.raiseIdle c d).min = s.min := rfl
@[simp] theorem raiseIdle_b (s : State) (c : FaultCode) (d : FaultDetail) : (s.raiseIdle c d).b = s.b := rfl
@[simp] theorem raiseIdle_rate (s : State) (c : FaultCode) (d : FaultDetail) : (s.raiseIdle c d).rate = s.rate := rfl
@[simp] theorem raiseIdle_cnt (s : State) (c : FaultCode) (d : FaultDetail) : (s.raiseIdle c d).cnt = s.cnt := rfl
@[simp] theorem raiseIdle_paddr (s : State) (c : FaultCode) (d : FaultDetail) : (s.raiseIdle c d).paddr = s.paddr := rfl
@[simp] theorem raiseIdle_ch (s : State) (c : FaultCode) (d : FaultDetail) : (s.raiseIdle c d).ch = s.ch := rfl
@[simp] theorem raiseIdle_k (s : State) (c : FaultCode) (d : FaultDetail) : (s.raiseIdle c d).k = s.k := rfl
@[simp] theorem raiseIdle_src (s : State) (c : FaultCode) (d : FaultDetail) : (s.raiseIdle c d).src = s.src := rfl
@[simp] theorem raiseIdle_acc (s : State) (c : FaultCode) (d : FaultDetail) : (s.raiseIdle c d).acc = s.acc := rfl
@[simp] theorem raiseIdle_idx (s : State) (c : FaultCode) (d : FaultDetail) : (s.raiseIdle c d).idx = s.idx := rfl
@[simp] theorem raiseIdle_polls (s : State) (c : FaultCode) (d : FaultDetail) : (s.raiseIdle c d).polls = s.polls := rfl
@[simp] theorem raiseIdle_retries (s : State) (c : FaultCode) (d : FaultDetail) : (s.raiseIdle c d).retries = s.retries := rfl
@[simp] theorem raiseIdle_resp (s : State) (c : FaultCode) (d : FaultDetail) : (s.raiseIdle c d).resp = s.resp := rfl
@[simp] theorem raiseIdle_fault (s : State) (c : FaultCode) (d : FaultDetail) : (s.raiseIdle c d).fault = some c := rfl
@[simp] theorem raiseIdle_faultInfo (s : State) (c : FaultCode) (d : FaultDetail) : (s.raiseIdle c d).faultInfo = { sel := none, upc := none, detail := d } := rfl
@[simp] theorem raiseIdle_offset (s : State) (c : FaultCode) (d : FaultDetail) : (s.raiseIdle c d).offset = s.offset := rfl
@[simp] theorem raiseIdle_triggers (s : State) (c : FaultCode) (d : FaultDetail) : (s.raiseIdle c d).triggers = s.triggers := rfl
@[simp] theorem raiseIdle_mem (s : State) (c : FaultCode) (d : FaultDetail) : (s.raiseIdle c d).mem = s.mem := rfl
@[simp] theorem raiseIdle_memReset (s : State) (c : FaultCode) (d : FaultDetail) : (s.raiseIdle c d).memReset = s.memReset := rfl
@[simp] theorem raiseIdle_dsp (s : State) (c : FaultCode) (d : FaultDetail) : (s.raiseIdle c d).dsp = s.dsp := rfl
@[simp] theorem raiseIdle_channels (s : State) (c : FaultCode) (d : FaultDetail) : (s.raiseIdle c d).channels = s.channels := rfl
@[simp] theorem raiseIdle_ff (s : State) (c : FaultCode) (d : FaultDetail) : (s.raiseIdle c d).ff = s.ff := rfl
@[simp] theorem raiseIdle_lock (s : State) (c : FaultCode) (d : FaultDetail) : (s.raiseIdle c d).lock = s.lock := rfl
@[simp] theorem raiseIdle_trace (s : State) (c : FaultCode) (d : FaultDetail) : (s.raiseIdle c d).trace = s.trace ++ [.fault c { sel := none, upc := none, detail := d }] := rfl
@[simp] theorem raiseIdle_turns (s : State) (c : FaultCode) (d : FaultDetail) : (s.raiseIdle c d).turns = s.turns := rfl
@[simp] theorem raiseIdle_draws (s : State) (c : FaultCode) (d : FaultDetail) : (s.raiseIdle c d).draws = s.draws := rfl
@[simp] theorem raiseIdle_tick (s : State) (c : FaultCode) (d : FaultDetail) : (s.raiseIdle c d).tick = s.tick := rfl

/-! ### `setChannel` -/

@[simp] theorem setChannel_cfg (s : State) (h : ChanNo) (c : Channel) : (s.setChannel h c).cfg = s.cfg := rfl
@[simp] theorem setChannel_ucode (s : State) (h : ChanNo) (c : Channel) : (s.setChannel h c).ucode = s.ucode := rfl
@[simp] theorem setChannel_seq (s : State) (h : ChanNo) (c : Channel) : (s.setChannel h c).seq = s.seq := rfl
@[simp] theorem setChannel_sel (s : State) (h : ChanNo) (c : Channel) : (s.setChannel h c).sel = s.sel := rfl
@[simp] theorem setChannel_upc (s : State) (h : ChanNo) (c : Channel) : (s.setChannel h c).upc = s.upc := rfl
@[simp] theorem setChannel_v (s : State) (h : ChanNo) (c : Channel) : (s.setChannel h c).v = s.v := rfl
@[simp] theorem setChannel_maj (s : State) (h : ChanNo) (c : Channel) : (s.setChannel h c).maj = s.maj := rfl
@[simp] theorem setChannel_min (s : State) (h : ChanNo) (c : Channel) : (s.setChannel h c).min = s.min := rfl
@[simp] theorem setChannel_b (s : State) (h : ChanNo) (c : Channel) : (s.setChannel h c).b = s.b := rfl
@[simp] theorem setChannel_rate (s : State) (h : ChanNo) (c : Channel) : (s.setChannel h c).rate = s.rate := rfl
@[simp] theorem setChannel_cnt (s : State) (h : ChanNo) (c : Channel) : (s.setChannel h c).cnt = s.cnt := rfl
@[simp] theorem setChannel_paddr (s : State) (h : ChanNo) (c : Channel) : (s.setChannel h c).paddr = s.paddr := rfl
@[simp] theorem setChannel_ch (s : State) (h : ChanNo) (c : Channel) : (s.setChannel h c).ch = s.ch := rfl
@[simp] theorem setChannel_k (s : State) (h : ChanNo) (c : Channel) : (s.setChannel h c).k = s.k := rfl
@[simp] theorem setChannel_src (s : State) (h : ChanNo) (c : Channel) : (s.setChannel h c).src = s.src := rfl
@[simp] theorem setChannel_acc (s : State) (h : ChanNo) (c : Channel) : (s.setChannel h c).acc = s.acc := rfl
@[simp] theorem setChannel_idx (s : State) (h : ChanNo) (c : Channel) : (s.setChannel h c).idx = s.idx := rfl
@[simp] theorem setChannel_polls (s : State) (h : ChanNo) (c : Channel) : (s.setChannel h c).polls = s.polls := rfl
@[simp] theorem setChannel_retries (s : State) (h : ChanNo) (c : Channel) : (s.setChannel h c).retries = s.retries := rfl
@[simp] theorem setChannel_resp (s : State) (h : ChanNo) (c : Channel) : (s.setChannel h c).resp = s.resp := rfl
@[simp] theorem setChannel_fault (s : State) (h : ChanNo) (c : Channel) : (s.setChannel h c).fault = s.fault := rfl
@[simp] theorem setChannel_faultInfo (s : State) (h : ChanNo) (c : Channel) : (s.setChannel h c).faultInfo = s.faultInfo := rfl
@[simp] theorem setChannel_offset (s : State) (h : ChanNo) (c : Channel) : (s.setChannel h c).offset = s.offset := rfl
@[simp] theorem setChannel_triggers (s : State) (h : ChanNo) (c : Channel) : (s.setChannel h c).triggers = s.triggers := rfl
@[simp] theorem setChannel_mem (s : State) (h : ChanNo) (c : Channel) : (s.setChannel h c).mem = s.mem := rfl
@[simp] theorem setChannel_memReset (s : State) (h : ChanNo) (c : Channel) : (s.setChannel h c).memReset = s.memReset := rfl
@[simp] theorem setChannel_dsp (s : State) (h : ChanNo) (c : Channel) : (s.setChannel h c).dsp = s.dsp := rfl
@[simp] theorem setChannel_channels (s : State) (h : ChanNo) (c : Channel) : (s.setChannel h c).channels = s.channels.setIfInBounds h.toNat c := rfl
@[simp] theorem setChannel_ff (s : State) (h : ChanNo) (c : Channel) : (s.setChannel h c).ff = s.ff := rfl
@[simp] theorem setChannel_lock (s : State) (h : ChanNo) (c : Channel) : (s.setChannel h c).lock = s.lock := rfl
@[simp] theorem setChannel_trace (s : State) (h : ChanNo) (c : Channel) : (s.setChannel h c).trace = s.trace := rfl
@[simp] theorem setChannel_turns (s : State) (h : ChanNo) (c : Channel) : (s.setChannel h c).turns = s.turns := rfl
@[simp] theorem setChannel_draws (s : State) (h : ChanNo) (c : Channel) : (s.setChannel h c).draws = s.draws := rfl
@[simp] theorem setChannel_tick (s : State) (h : ChanNo) (c : Channel) : (s.setChannel h c).tick = s.tick := rfl

/-! ### `memWrite` -/

@[simp] theorem memWrite_cfg (s : State) (a : Nat) (x : Byte) : (s.memWrite a x).cfg = s.cfg := rfl
@[simp] theorem memWrite_ucode (s : State) (a : Nat) (x : Byte) : (s.memWrite a x).ucode = s.ucode := rfl
@[simp] theorem memWrite_seq (s : State) (a : Nat) (x : Byte) : (s.memWrite a x).seq = s.seq := rfl
@[simp] theorem memWrite_sel (s : State) (a : Nat) (x : Byte) : (s.memWrite a x).sel = s.sel := rfl
@[simp] theorem memWrite_upc (s : State) (a : Nat) (x : Byte) : (s.memWrite a x).upc = s.upc := rfl
@[simp] theorem memWrite_v (s : State) (a : Nat) (x : Byte) : (s.memWrite a x).v = s.v := rfl
@[simp] theorem memWrite_maj (s : State) (a : Nat) (x : Byte) : (s.memWrite a x).maj = s.maj := rfl
@[simp] theorem memWrite_min (s : State) (a : Nat) (x : Byte) : (s.memWrite a x).min = s.min := rfl
@[simp] theorem memWrite_b (s : State) (a : Nat) (x : Byte) : (s.memWrite a x).b = s.b := rfl
@[simp] theorem memWrite_rate (s : State) (a : Nat) (x : Byte) : (s.memWrite a x).rate = s.rate := rfl
@[simp] theorem memWrite_cnt (s : State) (a : Nat) (x : Byte) : (s.memWrite a x).cnt = s.cnt := rfl
@[simp] theorem memWrite_paddr (s : State) (a : Nat) (x : Byte) : (s.memWrite a x).paddr = s.paddr := rfl
@[simp] theorem memWrite_ch (s : State) (a : Nat) (x : Byte) : (s.memWrite a x).ch = s.ch := rfl
@[simp] theorem memWrite_k (s : State) (a : Nat) (x : Byte) : (s.memWrite a x).k = s.k := rfl
@[simp] theorem memWrite_src (s : State) (a : Nat) (x : Byte) : (s.memWrite a x).src = s.src := rfl
@[simp] theorem memWrite_acc (s : State) (a : Nat) (x : Byte) : (s.memWrite a x).acc = s.acc := rfl
@[simp] theorem memWrite_idx (s : State) (a : Nat) (x : Byte) : (s.memWrite a x).idx = s.idx := rfl
@[simp] theorem memWrite_polls (s : State) (a : Nat) (x : Byte) : (s.memWrite a x).polls = s.polls := rfl
@[simp] theorem memWrite_retries (s : State) (a : Nat) (x : Byte) : (s.memWrite a x).retries = s.retries := rfl
@[simp] theorem memWrite_resp (s : State) (a : Nat) (x : Byte) : (s.memWrite a x).resp = s.resp := rfl
@[simp] theorem memWrite_fault (s : State) (a : Nat) (x : Byte) : (s.memWrite a x).fault = s.fault := rfl
@[simp] theorem memWrite_faultInfo (s : State) (a : Nat) (x : Byte) : (s.memWrite a x).faultInfo = s.faultInfo := rfl
@[simp] theorem memWrite_offset (s : State) (a : Nat) (x : Byte) : (s.memWrite a x).offset = s.offset := rfl
@[simp] theorem memWrite_triggers (s : State) (a : Nat) (x : Byte) : (s.memWrite a x).triggers = s.triggers := rfl
@[simp] theorem memWrite_mem (s : State) (a : Nat) (x : Byte) : (s.memWrite a x).mem = s.mem.write a x := rfl
@[simp] theorem memWrite_memReset (s : State) (a : Nat) (x : Byte) : (s.memWrite a x).memReset = s.memReset := rfl
@[simp] theorem memWrite_dsp (s : State) (a : Nat) (x : Byte) : (s.memWrite a x).dsp = s.dsp := rfl
@[simp] theorem memWrite_channels (s : State) (a : Nat) (x : Byte) : (s.memWrite a x).channels = s.channels := rfl
@[simp] theorem memWrite_ff (s : State) (a : Nat) (x : Byte) : (s.memWrite a x).ff = s.ff := rfl
@[simp] theorem memWrite_lock (s : State) (a : Nat) (x : Byte) : (s.memWrite a x).lock = s.lock := rfl
@[simp] theorem memWrite_trace (s : State) (a : Nat) (x : Byte) : (s.memWrite a x).trace = s.trace := rfl
@[simp] theorem memWrite_turns (s : State) (a : Nat) (x : Byte) : (s.memWrite a x).turns = s.turns := rfl
@[simp] theorem memWrite_draws (s : State) (a : Nat) (x : Byte) : (s.memWrite a x).draws = s.draws := rfl
@[simp] theorem memWrite_tick (s : State) (a : Nat) (x : Byte) : (s.memWrite a x).tick = s.tick := rfl

/-! ### `draw` -/

@[simp] theorem draw_cfg (s : State) : (s.draw.2).cfg = s.cfg := by unfold draw; split <;> rfl
@[simp] theorem draw_ucode (s : State) : (s.draw.2).ucode = s.ucode := by unfold draw; split <;> rfl
@[simp] theorem draw_seq (s : State) : (s.draw.2).seq = s.seq := by unfold draw; split <;> rfl
@[simp] theorem draw_sel (s : State) : (s.draw.2).sel = s.sel := by unfold draw; split <;> rfl
@[simp] theorem draw_upc (s : State) : (s.draw.2).upc = s.upc := by unfold draw; split <;> rfl
@[simp] theorem draw_v (s : State) : (s.draw.2).v = s.v := by unfold draw; split <;> rfl
@[simp] theorem draw_maj (s : State) : (s.draw.2).maj = s.maj := by unfold draw; split <;> rfl
@[simp] theorem draw_min (s : State) : (s.draw.2).min = s.min := by unfold draw; split <;> rfl
@[simp] theorem draw_b (s : State) : (s.draw.2).b = s.b := by unfold draw; split <;> rfl
@[simp] theorem draw_rate (s : State) : (s.draw.2).rate = s.rate := by unfold draw; split <;> rfl
@[simp] theorem draw_cnt (s : State) : (s.draw.2).cnt = s.cnt := by unfold draw; split <;> rfl
@[simp] theorem draw_paddr (s : State) : (s.draw.2).paddr = s.paddr := by unfold draw; split <;> rfl
@[simp] theorem draw_ch (s : State) : (s.draw.2).ch = s.ch := by unfold draw; split <;> rfl
@[simp] theorem draw_k (s : State) : (s.draw.2).k = s.k := by unfold draw; split <;> rfl
@[simp] theorem draw_src (s : State) : (s.draw.2).src = s.src := by unfold draw; split <;> rfl
@[simp] theorem draw_acc (s : State) : (s.draw.2).acc = s.acc := by unfold draw; split <;> rfl
@[simp] theorem draw_idx (s : State) : (s.draw.2).idx = s.idx := by unfold draw; split <;> rfl
@[simp] theorem draw_polls (s : State) : (s.draw.2).polls = s.polls := by unfold draw; split <;> rfl
@[simp] theorem draw_retries (s : State) : (s.draw.2).retries = s.retries := by unfold draw; split <;> rfl
@[simp] theorem draw_resp (s : State) : (s.draw.2).resp = s.resp := by unfold draw; split <;> rfl
@[simp] theorem draw_fault (s : State) : (s.draw.2).fault = s.fault := by unfold draw; split <;> rfl
@[simp] theorem draw_faultInfo (s : State) : (s.draw.2).faultInfo = s.faultInfo := by unfold draw; split <;> rfl
@[simp] theorem draw_offset (s : State) : (s.draw.2).offset = s.offset := by unfold draw; split <;> rfl
@[simp] theorem draw_triggers (s : State) : (s.draw.2).triggers = s.triggers := by unfold draw; split <;> rfl
@[simp] theorem draw_mem (s : State) : (s.draw.2).mem = s.mem := by unfold draw; split <;> rfl
@[simp] theorem draw_memReset (s : State) : (s.draw.2).memReset = s.memReset := by unfold draw; split <;> rfl
@[simp] theorem draw_dsp (s : State) : (s.draw.2).dsp = s.dsp := by unfold draw; split <;> rfl
@[simp] theorem draw_channels (s : State) : (s.draw.2).channels = s.channels := by unfold draw; split <;> rfl
@[simp] theorem draw_ff (s : State) : (s.draw.2).ff = s.ff := by unfold draw; split <;> rfl
@[simp] theorem draw_lock (s : State) : (s.draw.2).lock = s.lock := by unfold draw; split <;> rfl
@[simp] theorem draw_trace (s : State) : (s.draw.2).trace = s.trace := by unfold draw; split <;> rfl
@[simp] theorem draw_turns (s : State) : (s.draw.2).turns = s.turns := by unfold draw; split <;> rfl

/-! ### `takeTurn` -/

@[simp] theorem takeTurn_cfg (s : State) : (s.takeTurn.2).cfg = s.cfg := by unfold takeTurn; split <;> rfl
@[simp] theorem takeTurn_ucode (s : State) : (s.takeTurn.2).ucode = s.ucode := by unfold takeTurn; split <;> rfl
@[simp] theorem takeTurn_seq (s : State) : (s.takeTurn.2).seq = s.seq := by unfold takeTurn; split <;> rfl
@[simp] theorem takeTurn_sel (s : State) : (s.takeTurn.2).sel = s.sel := by unfold takeTurn; split <;> rfl
@[simp] theorem takeTurn_upc (s : State) : (s.takeTurn.2).upc = s.upc := by unfold takeTurn; split <;> rfl
@[simp] theorem takeTurn_v (s : State) : (s.takeTurn.2).v = s.v := by unfold takeTurn; split <;> rfl
@[simp] theorem takeTurn_maj (s : State) : (s.takeTurn.2).maj = s.maj := by unfold takeTurn; split <;> rfl
@[simp] theorem takeTurn_min (s : State) : (s.takeTurn.2).min = s.min := by unfold takeTurn; split <;> rfl
@[simp] theorem takeTurn_b (s : State) : (s.takeTurn.2).b = s.b := by unfold takeTurn; split <;> rfl
@[simp] theorem takeTurn_rate (s : State) : (s.takeTurn.2).rate = s.rate := by unfold takeTurn; split <;> rfl
@[simp] theorem takeTurn_cnt (s : State) : (s.takeTurn.2).cnt = s.cnt := by unfold takeTurn; split <;> rfl
@[simp] theorem takeTurn_paddr (s : State) : (s.takeTurn.2).paddr = s.paddr := by unfold takeTurn; split <;> rfl
@[simp] theorem takeTurn_ch (s : State) : (s.takeTurn.2).ch = s.ch := by unfold takeTurn; split <;> rfl
@[simp] theorem takeTurn_k (s : State) : (s.takeTurn.2).k = s.k := by unfold takeTurn; split <;> rfl
@[simp] theorem takeTurn_src (s : State) : (s.takeTurn.2).src = s.src := by unfold takeTurn; split <;> rfl
@[simp] theorem takeTurn_acc (s : State) : (s.takeTurn.2).acc = s.acc := by unfold takeTurn; split <;> rfl
@[simp] theorem takeTurn_idx (s : State) : (s.takeTurn.2).idx = s.idx := by unfold takeTurn; split <;> rfl
@[simp] theorem takeTurn_polls (s : State) : (s.takeTurn.2).polls = s.polls := by unfold takeTurn; split <;> rfl
@[simp] theorem takeTurn_retries (s : State) : (s.takeTurn.2).retries = s.retries := by unfold takeTurn; split <;> rfl
@[simp] theorem takeTurn_resp (s : State) : (s.takeTurn.2).resp = s.resp := by unfold takeTurn; split <;> rfl
@[simp] theorem takeTurn_fault (s : State) : (s.takeTurn.2).fault = s.fault := by unfold takeTurn; split <;> rfl
@[simp] theorem takeTurn_faultInfo (s : State) : (s.takeTurn.2).faultInfo = s.faultInfo := by unfold takeTurn; split <;> rfl
@[simp] theorem takeTurn_offset (s : State) : (s.takeTurn.2).offset = s.offset := by unfold takeTurn; split <;> rfl
@[simp] theorem takeTurn_triggers (s : State) : (s.takeTurn.2).triggers = s.triggers := by unfold takeTurn; split <;> rfl
@[simp] theorem takeTurn_mem (s : State) : (s.takeTurn.2).mem = s.mem := by unfold takeTurn; split <;> rfl
@[simp] theorem takeTurn_memReset (s : State) : (s.takeTurn.2).memReset = s.memReset := by unfold takeTurn; split <;> rfl
@[simp] theorem takeTurn_dsp (s : State) : (s.takeTurn.2).dsp = s.dsp := by unfold takeTurn; split <;> rfl
@[simp] theorem takeTurn_channels (s : State) : (s.takeTurn.2).channels = s.channels := by unfold takeTurn; split <;> rfl
@[simp] theorem takeTurn_ff (s : State) : (s.takeTurn.2).ff = s.ff := by unfold takeTurn; split <;> rfl
@[simp] theorem takeTurn_lock (s : State) : (s.takeTurn.2).lock = s.lock := by unfold takeTurn; split <;> rfl
@[simp] theorem takeTurn_trace (s : State) : (s.takeTurn.2).trace = s.trace := by unfold takeTurn; split <;> rfl
@[simp] theorem takeTurn_draws (s : State) : (s.takeTurn.2).draws = s.draws := by unfold takeTurn; split <;> rfl

/-! ### `drawReset` -/

@[simp] theorem drawReset_cfg (s : State) (a : Nat) : (s.drawReset a).2.cfg = s.cfg := by simp [drawReset]
@[simp] theorem drawReset_ucode (s : State) (a : Nat) : (s.drawReset a).2.ucode = s.ucode := by simp [drawReset]
@[simp] theorem drawReset_seq (s : State) (a : Nat) : (s.drawReset a).2.seq = s.seq := by simp [drawReset]
@[simp] theorem drawReset_sel (s : State) (a : Nat) : (s.drawReset a).2.sel = s.sel := by simp [drawReset]
@[simp] theorem drawReset_upc (s : State) (a : Nat) : (s.drawReset a).2.upc = s.upc := by simp [drawReset]
@[simp] theorem drawReset_v (s : State) (a : Nat) : (s.drawReset a).2.v = s.v := by simp [drawReset]
@[simp] theorem drawReset_maj (s : State) (a : Nat) : (s.drawReset a).2.maj = s.maj := by simp [drawReset]
@[simp] theorem drawReset_min (s : State) (a : Nat) : (s.drawReset a).2.min = s.min := by simp [drawReset]
@[simp] theorem drawReset_b (s : State) (a : Nat) : (s.drawReset a).2.b = s.b := by simp [drawReset]
@[simp] theorem drawReset_rate (s : State) (a : Nat) : (s.drawReset a).2.rate = s.rate := by simp [drawReset]
@[simp] theorem drawReset_cnt (s : State) (a : Nat) : (s.drawReset a).2.cnt = s.cnt := by simp [drawReset]
@[simp] theorem drawReset_paddr (s : State) (a : Nat) : (s.drawReset a).2.paddr = s.paddr := by simp [drawReset]
@[simp] theorem drawReset_ch (s : State) (a : Nat) : (s.drawReset a).2.ch = s.ch := by simp [drawReset]
@[simp] theorem drawReset_k (s : State) (a : Nat) : (s.drawReset a).2.k = s.k := by simp [drawReset]
@[simp] theorem drawReset_src (s : State) (a : Nat) : (s.drawReset a).2.src = s.src := by simp [drawReset]
@[simp] theorem drawReset_acc (s : State) (a : Nat) : (s.drawReset a).2.acc = s.acc := by simp [drawReset]
@[simp] theorem drawReset_idx (s : State) (a : Nat) : (s.drawReset a).2.idx = s.idx := by simp [drawReset]
@[simp] theorem drawReset_polls (s : State) (a : Nat) : (s.drawReset a).2.polls = s.polls := by simp [drawReset]
@[simp] theorem drawReset_retries (s : State) (a : Nat) : (s.drawReset a).2.retries = s.retries := by simp [drawReset]
@[simp] theorem drawReset_resp (s : State) (a : Nat) : (s.drawReset a).2.resp = s.resp := by simp [drawReset]
@[simp] theorem drawReset_fault (s : State) (a : Nat) : (s.drawReset a).2.fault = s.fault := by simp [drawReset]
@[simp] theorem drawReset_faultInfo (s : State) (a : Nat) : (s.drawReset a).2.faultInfo = s.faultInfo := by simp [drawReset]
@[simp] theorem drawReset_offset (s : State) (a : Nat) : (s.drawReset a).2.offset = s.offset := by simp [drawReset]
@[simp] theorem drawReset_triggers (s : State) (a : Nat) : (s.drawReset a).2.triggers = s.triggers := by simp [drawReset]
@[simp] theorem drawReset_mem (s : State) (a : Nat) : (s.drawReset a).2.mem = s.mem := by simp [drawReset]
@[simp] theorem drawReset_dsp (s : State) (a : Nat) : (s.drawReset a).2.dsp = s.dsp := by simp [drawReset]
@[simp] theorem drawReset_channels (s : State) (a : Nat) : (s.drawReset a).2.channels = s.channels := by simp [drawReset]
@[simp] theorem drawReset_ff (s : State) (a : Nat) : (s.drawReset a).2.ff = s.ff := by simp [drawReset]
@[simp] theorem drawReset_lock (s : State) (a : Nat) : (s.drawReset a).2.lock = s.lock := by simp [drawReset]
@[simp] theorem drawReset_trace (s : State) (a : Nat) : (s.drawReset a).2.trace = s.trace := by simp [drawReset]
@[simp] theorem drawReset_turns (s : State) (a : Nat) : (s.drawReset a).2.turns = s.turns := by simp [drawReset]

/-! ### `memRead` -/

@[simp] theorem memRead_cfg (s : State) (a : Nat) : (s.memRead a).2.cfg = s.cfg := by unfold memRead; split <;> simp
@[simp] theorem memRead_ucode (s : State) (a : Nat) : (s.memRead a).2.ucode = s.ucode := by unfold memRead; split <;> simp
@[simp] theorem memRead_seq (s : State) (a : Nat) : (s.memRead a).2.seq = s.seq := by unfold memRead; split <;> simp
@[simp] theorem memRead_sel (s : State) (a : Nat) : (s.memRead a).2.sel = s.sel := by unfold memRead; split <;> simp
@[simp] theorem memRead_upc (s : State) (a : Nat) : (s.memRead a).2.upc = s.upc := by unfold memRead; split <;> simp
@[simp] theorem memRead_v (s : State) (a : Nat) : (s.memRead a).2.v = s.v := by unfold memRead; split <;> simp
@[simp] theorem memRead_maj (s : State) (a : Nat) : (s.memRead a).2.maj = s.maj := by unfold memRead; split <;> simp
@[simp] theorem memRead_min (s : State) (a : Nat) : (s.memRead a).2.min = s.min := by unfold memRead; split <;> simp
@[simp] theorem memRead_b (s : State) (a : Nat) : (s.memRead a).2.b = s.b := by unfold memRead; split <;> simp
@[simp] theorem memRead_rate (s : State) (a : Nat) : (s.memRead a).2.rate = s.rate := by unfold memRead; split <;> simp
@[simp] theorem memRead_cnt (s : State) (a : Nat) : (s.memRead a).2.cnt = s.cnt := by unfold memRead; split <;> simp
@[simp] theorem memRead_paddr (s : State) (a : Nat) : (s.memRead a).2.paddr = s.paddr := by unfold memRead; split <;> simp
@[simp] theorem memRead_ch (s : State) (a : Nat) : (s.memRead a).2.ch = s.ch := by unfold memRead; split <;> simp
@[simp] theorem memRead_k (s : State) (a : Nat) : (s.memRead a).2.k = s.k := by unfold memRead; split <;> simp
@[simp] theorem memRead_src (s : State) (a : Nat) : (s.memRead a).2.src = s.src := by unfold memRead; split <;> simp
@[simp] theorem memRead_acc (s : State) (a : Nat) : (s.memRead a).2.acc = s.acc := by unfold memRead; split <;> simp
@[simp] theorem memRead_idx (s : State) (a : Nat) : (s.memRead a).2.idx = s.idx := by unfold memRead; split <;> simp
@[simp] theorem memRead_polls (s : State) (a : Nat) : (s.memRead a).2.polls = s.polls := by unfold memRead; split <;> simp
@[simp] theorem memRead_retries (s : State) (a : Nat) : (s.memRead a).2.retries = s.retries := by unfold memRead; split <;> simp
@[simp] theorem memRead_resp (s : State) (a : Nat) : (s.memRead a).2.resp = s.resp := by unfold memRead; split <;> simp
@[simp] theorem memRead_fault (s : State) (a : Nat) : (s.memRead a).2.fault = s.fault := by unfold memRead; split <;> simp
@[simp] theorem memRead_faultInfo (s : State) (a : Nat) : (s.memRead a).2.faultInfo = s.faultInfo := by unfold memRead; split <;> simp
@[simp] theorem memRead_offset (s : State) (a : Nat) : (s.memRead a).2.offset = s.offset := by unfold memRead; split <;> simp
@[simp] theorem memRead_triggers (s : State) (a : Nat) : (s.memRead a).2.triggers = s.triggers := by unfold memRead; split <;> simp
@[simp] theorem memRead_mem (s : State) (a : Nat) : (s.memRead a).2.mem = s.mem := by unfold memRead; split <;> simp
@[simp] theorem memRead_dsp (s : State) (a : Nat) : (s.memRead a).2.dsp = s.dsp := by unfold memRead; split <;> simp
@[simp] theorem memRead_channels (s : State) (a : Nat) : (s.memRead a).2.channels = s.channels := by unfold memRead; split <;> simp
@[simp] theorem memRead_ff (s : State) (a : Nat) : (s.memRead a).2.ff = s.ff := by unfold memRead; split <;> simp
@[simp] theorem memRead_lock (s : State) (a : Nat) : (s.memRead a).2.lock = s.lock := by unfold memRead; split <;> simp
@[simp] theorem memRead_trace (s : State) (a : Nat) : (s.memRead a).2.trace = s.trace := by unfold memRead; split <;> simp
@[simp] theorem memRead_turns (s : State) (a : Nat) : (s.memRead a).2.turns = s.turns := by unfold memRead; split <;> simp

/-! ### What the list-reading operations answer -/

theorem draw_cons {s : State} {x : Byte} {xs : List Byte} (h : s.draws = x :: xs) :
    s.draw = (x, { s with draws := xs }) := by simp [draw, h]

theorem draw_nil {s : State} (h : s.draws = []) :
    s.draw = (Config.freeByte s.tick, { s with tick := s.tick + 1 }) := by simp [draw, h]

theorem takeTurn_cons {s : State} {t : Turn} {ts : List Turn} (h : s.turns = t :: ts) :
    s.takeTurn = (t, { s with turns := ts }) := by simp [takeTurn, h]

theorem takeTurn_nil {s : State} (h : s.turns = []) :
    s.takeTurn = (Config.freeTurn s.tick, { s with tick := s.tick + 1 }) := by simp [takeTurn, h]

/-- A draw changes only what is left to draw. -/
theorem draw_frame (s : State) : s.draw.2 = { s with draws := s.draw.2.draws, tick := s.draw.2.tick } := by
  unfold draw; split <;> rfl

/-- Taking a turn changes only what is left of the interleaving. -/
theorem takeTurn_frame (s : State) :
    s.takeTurn.2 = { s with turns := s.takeTurn.2.turns, tick := s.takeTurn.2.tick } := by
  unfold takeTurn; split <;> rfl

/-- Drawing a byte's reset contents keeps them and changes what is left to draw, and nothing else. -/
theorem drawReset_frame (s : State) (a : Nat) :
    (s.drawReset a).2 = { s with
      memReset := s.memReset.write a (s.drawReset a).1, draws := (s.drawReset a).2.draws
      tick := (s.drawReset a).2.tick } := by
  simp only [drawReset]
  rw [draw_frame]

/-- A memory read changes only what is left to draw and what is known of the reset contents. -/
theorem memRead_frame (s : State) (a : Nat) :
    (s.memRead a).2 = { s with
      memReset := (s.memRead a).2.memReset, draws := (s.memRead a).2.draws, tick := (s.memRead a).2.tick } := by
  unfold memRead
  split
  · rfl
  · rw [drawReset_frame]

/-- A byte memory holds is read as it is, and nothing is drawn. -/
theorem memRead_held {s : State} {a : Nat} {x : Byte} (h : s.byteAt a = some x) : s.memRead a = (x, s) := by
  simp [memRead, h]

/-- A byte memory does not hold yet is drawn, and kept. -/
theorem memRead_unheld {s : State} {a : Nat} (h : s.byteAt a = none) : s.memRead a = s.drawReset a := by
  simp [memRead, h]

/-- A byte nothing has written holds its reset contents, once they are known. -/
theorem byteAt_unwritten {s : State} {a : Nat} (h : s.mem.read a = none) : s.byteAt a = s.memReset.read a := by
  simp [byteAt, h]

/-- A byte something has written holds what was written. -/
theorem byteAt_written {s : State} {a : Nat} {x : Byte} (h : s.mem.read a = some x) : s.byteAt a = some x := by
  simp [byteAt, h]

/-- What memory holds is a function of the two lists alone. -/
theorem byteAt_congr {s t : State} (h : t.mem = s.mem) (h' : t.memReset = s.memReset) (a : Nat) :
    t.byteAt a = s.byteAt a := by
  unfold byteAt
  rw [h, h']

/-- After a read the byte read is what memory holds there (R87). -/
@[simp] theorem byteAt_memRead_same (s : State) (a : Nat) : (s.memRead a).2.byteAt a = some (s.memRead a).1 := by
  unfold memRead
  cases h : s.byteAt a with
  | some x => exact h
  | none =>
    have hm : s.mem.read a = none := by
      cases hm : s.mem.read a with
      | none => rfl
      | some x => rw [byteAt_written hm] at h; cases h
    simp only [drawReset]
    rw [byteAt_unwritten (by simpa using hm)]
    exact Memory.read_write_same _ _ _

/-- A read leaves what memory holds at every other address. -/
theorem byteAt_memRead_other (s : State) {a c : Nat} (h : c ≠ a) : (s.memRead a).2.byteAt c = s.byteAt c := by
  unfold memRead
  split
  · rfl
  · simp [drawReset, byteAt, Memory.read_write_other _ _ h]

/-- A read leaves every byte memory holds. -/
theorem byteAt_memRead_held {s : State} {a c : Nat} {x : Byte} (h : s.byteAt c = some x) :
    (s.memRead a).2.byteAt c = some x := by
  by_cases e : c = a
  · subst e
    rwa [memRead_held h]
  · rwa [byteAt_memRead_other s e]

/-! ### How the updates compose -/

/-- A listed request presented while IDLE is accepted. -/
theorem present_idle {s : State} (h : s.seq = .idle) (sel : Byte) (ops : List Nat) (latch : State → State) :
    s.present sel ops latch = s.accept sel ops latch := by simp [present, h]

/-- A listed request presented while BUSY raises the concurrent-request fault. -/
theorem present_busy {s : State} (h : s.seq = .busy) (sel : Byte) (ops : List Nat) (latch : State → State) :
    s.present sel ops latch = s.raise .concurrentRequest (.selector sel) := by simp [present, h]

/-- A listed request presented while HALTED has no step. -/
theorem present_halted {s : State} (h : s.seq = .halted) (sel : Byte) (ops : List Nat) (latch : State → State) :
    s.present sel ops latch = s := by simp [present, h]

/-- The registers of a channel after a channel was replaced. -/
theorem channel?_setChannel (s : State) (h h' : ChanNo) (c : Channel) :
    (s.setChannel h c).channel? h' = if h = h' ∧ h'.toNat < 4 then some c else s.channel? h' := by
  unfold channel? setChannel
  rw [Vector.getElem?_setIfInBounds]
  by_cases e : h = h'
  · subst e; by_cases l : h.toNat < 4 <;> simp [l]
  · have e' : h.toNat ≠ h'.toNat := fun he => e (BitVec.eq_of_toNat_eq he)
    simp [e, e']

/-- The controller has the channels 0 to 3. -/
theorem channel?_isSome (s : State) (h : ChanNo) : (s.channel? h).isSome = decide (h.toNat < 4) := by
  unfold channel?
  by_cases l : h.toNat < 4 <;> simp [l]

/-- The lock test passes: the rest runs. -/
theorem underLock_held {s : State} (h : s.lock = .seq) (f : State → Result) : s.underLock f = f s := by
  simp [underLock, h]

/-- The lock test fails: `F_LOCK_STATE`. -/
theorem underLock_not_held {s : State} (h : s.lock ≠ .seq) (f : State → Result) :
    s.underLock f = .next (s.raise .lockState (.lock s.lock)) := by simp [underLock, h]

/-- The latch test passes: the rest runs. -/
theorem withClearedFf_cleared {s : State} (h : s.ff = .cleared) (f : State → Result) : s.withClearedFf f = f s := by
  simp [withClearedFf, h]

/-- The latch test fails: `F_FLIPFLOP_NOT_CLEARED`. -/
theorem withClearedFf_not_cleared {s : State} (h : s.ff ≠ .cleared) (f : State → Result) :
    s.withClearedFf f = .next (s.raise .flipFlopNotCleared (.channel s.ch)) := by simp [withClearedFf, h]

/-- An update of channel `CH` runs where the channel exists. -/
theorem updateChannel_some {s : State} {c : Channel} (h : s.channel? s.ch = some c) (g : Channel → Channel)
    (f : State → Result) : s.updateChannel g f = f (s.setChannel s.ch (g c)) := by simp [updateChannel, h]

end Sys2Proof.Machine.State
end

