-- ==== Sys2Proof/Laws/Dsp.lean ====
section
/-! SUPPORT. What the DSP's operations leave unchanged, field by field: they touch the DSP and the draws alone; and what
the status bytes say. -/

namespace Sys2Proof.Machine

/-- Bit 7 of a status byte is its flag, whatever the draw (R105). -/
@[simp] theorem statusFlag_statusByte (f : Bool) (x : Byte) : statusFlag (statusByte f x) = f := by
  cases f <;> simp [statusFlag, statusByte]

@[simp] theorem busyFlag_statusByte (f : Bool) (x : Byte) : busyFlag (statusByte f x) = f := statusFlag_statusByte f x

@[simp] theorem availFlag_statusByte (f : Bool) (x : Byte) : availFlag (statusByte f x) = f := statusFlag_statusByte f x

namespace State

/-! ### `setDsp` -/

@[simp] theorem setDsp_cfg (s : State) (d : Dsp) : (s.setDsp d).cfg = s.cfg := rfl
@[simp] theorem setDsp_ucode (s : State) (d : Dsp) : (s.setDsp d).ucode = s.ucode := rfl
@[simp] theorem setDsp_seq (s : State) (d : Dsp) : (s.setDsp d).seq = s.seq := rfl
@[simp] theorem setDsp_sel (s : State) (d : Dsp) : (s.setDsp d).sel = s.sel := rfl
@[simp] theorem setDsp_upc (s : State) (d : Dsp) : (s.setDsp d).upc = s.upc := rfl
@[simp] theorem setDsp_v (s : State) (d : Dsp) : (s.setDsp d).v = s.v := rfl
@[simp] theorem setDsp_maj (s : State) (d : Dsp) : (s.setDsp d).maj = s.maj := rfl
@[simp] theorem setDsp_min (s : State) (d : Dsp) : (s.setDsp d).min = s.min := rfl
@[simp] theorem setDsp_b (s : State) (d : Dsp) : (s.setDsp d).b = s.b := rfl
@[simp] theorem setDsp_rate (s : State) (d : Dsp) : (s.setDsp d).rate = s.rate := rfl
@[simp] theorem setDsp_cnt (s : State) (d : Dsp) : (s.setDsp d).cnt = s.cnt := rfl
@[simp] theorem setDsp_paddr (s : State) (d : Dsp) : (s.setDsp d).paddr = s.paddr := rfl
@[simp] theorem setDsp_ch (s : State) (d : Dsp) : (s.setDsp d).ch = s.ch := rfl
@[simp] theorem setDsp_k (s : State) (d : Dsp) : (s.setDsp d).k = s.k := rfl
@[simp] theorem setDsp_src (s : State) (d : Dsp) : (s.setDsp d).src = s.src := rfl
@[simp] theorem setDsp_acc (s : State) (d : Dsp) : (s.setDsp d).acc = s.acc := rfl
@[simp] theorem setDsp_idx (s : State) (d : Dsp) : (s.setDsp d).idx = s.idx := rfl
@[simp] theorem setDsp_polls (s : State) (d : Dsp) : (s.setDsp d).polls = s.polls := rfl
@[simp] theorem setDsp_retries (s : State) (d : Dsp) : (s.setDsp d).retries = s.retries := rfl
@[simp] theorem setDsp_resp (s : State) (d : Dsp) : (s.setDsp d).resp = s.resp := rfl
@[simp] theorem setDsp_fault (s : State) (d : Dsp) : (s.setDsp d).fault = s.fault := rfl
@[simp] theorem setDsp_faultInfo (s : State) (d : Dsp) : (s.setDsp d).faultInfo = s.faultInfo := rfl
@[simp] theorem setDsp_offset (s : State) (d : Dsp) : (s.setDsp d).offset = s.offset := rfl
@[simp] theorem setDsp_triggers (s : State) (d : Dsp) : (s.setDsp d).triggers = s.triggers := rfl
@[simp] theorem setDsp_mem (s : State) (d : Dsp) : (s.setDsp d).mem = s.mem := rfl
@[simp] theorem setDsp_memReset (s : State) (d : Dsp) : (s.setDsp d).memReset = s.memReset := rfl
@[simp] theorem setDsp_channels (s : State) (d : Dsp) : (s.setDsp d).channels = s.channels := rfl
@[simp] theorem setDsp_ff (s : State) (d : Dsp) : (s.setDsp d).ff = s.ff := rfl
@[simp] theorem setDsp_lock (s : State) (d : Dsp) : (s.setDsp d).lock = s.lock := rfl
@[simp] theorem setDsp_trace (s : State) (d : Dsp) : (s.setDsp d).trace = s.trace := rfl
@[simp] theorem setDsp_turns (s : State) (d : Dsp) : (s.setDsp d).turns = s.turns := rfl
@[simp] theorem setDsp_draws (s : State) (d : Dsp) : (s.setDsp d).draws = s.draws := rfl
@[simp] theorem setDsp_tick (s : State) (d : Dsp) : (s.setDsp d).tick = s.tick := rfl

@[simp] theorem setDsp_dsp (s : State) (d : Dsp) : (s.setDsp d).dsp = d := rfl

/-! ### `dspUnknown` -/

@[simp] theorem dspUnknown_cfg (s : State) : (s.dspUnknown).cfg = s.cfg := rfl
@[simp] theorem dspUnknown_ucode (s : State) : (s.dspUnknown).ucode = s.ucode := rfl
@[simp] theorem dspUnknown_seq (s : State) : (s.dspUnknown).seq = s.seq := rfl
@[simp] theorem dspUnknown_sel (s : State) : (s.dspUnknown).sel = s.sel := rfl
@[simp] theorem dspUnknown_upc (s : State) : (s.dspUnknown).upc = s.upc := rfl
@[simp] theorem dspUnknown_v (s : State) : (s.dspUnknown).v = s.v := rfl
@[simp] theorem dspUnknown_maj (s : State) : (s.dspUnknown).maj = s.maj := rfl
@[simp] theorem dspUnknown_min (s : State) : (s.dspUnknown).min = s.min := rfl
@[simp] theorem dspUnknown_b (s : State) : (s.dspUnknown).b = s.b := rfl
@[simp] theorem dspUnknown_rate (s : State) : (s.dspUnknown).rate = s.rate := rfl
@[simp] theorem dspUnknown_cnt (s : State) : (s.dspUnknown).cnt = s.cnt := rfl
@[simp] theorem dspUnknown_paddr (s : State) : (s.dspUnknown).paddr = s.paddr := rfl
@[simp] theorem dspUnknown_ch (s : State) : (s.dspUnknown).ch = s.ch := rfl
@[simp] theorem dspUnknown_k (s : State) : (s.dspUnknown).k = s.k := rfl
@[simp] theorem dspUnknown_src (s : State) : (s.dspUnknown).src = s.src := rfl
@[simp] theorem dspUnknown_acc (s : State) : (s.dspUnknown).acc = s.acc := rfl
@[simp] theorem dspUnknown_idx (s : State) : (s.dspUnknown).idx = s.idx := rfl
@[simp] theorem dspUnknown_polls (s : State) : (s.dspUnknown).polls = s.polls := rfl
@[simp] theorem dspUnknown_retries (s : State) : (s.dspUnknown).retries = s.retries := rfl
@[simp] theorem dspUnknown_resp (s : State) : (s.dspUnknown).resp = s.resp := rfl
@[simp] theorem dspUnknown_fault (s : State) : (s.dspUnknown).fault = s.fault := rfl
@[simp] theorem dspUnknown_faultInfo (s : State) : (s.dspUnknown).faultInfo = s.faultInfo := rfl
@[simp] theorem dspUnknown_offset (s : State) : (s.dspUnknown).offset = s.offset := rfl
@[simp] theorem dspUnknown_triggers (s : State) : (s.dspUnknown).triggers = s.triggers := rfl
@[simp] theorem dspUnknown_mem (s : State) : (s.dspUnknown).mem = s.mem := rfl
@[simp] theorem dspUnknown_memReset (s : State) : (s.dspUnknown).memReset = s.memReset := rfl
@[simp] theorem dspUnknown_channels (s : State) : (s.dspUnknown).channels = s.channels := rfl
@[simp] theorem dspUnknown_ff (s : State) : (s.dspUnknown).ff = s.ff := rfl
@[simp] theorem dspUnknown_lock (s : State) : (s.dspUnknown).lock = s.lock := rfl
@[simp] theorem dspUnknown_trace (s : State) : (s.dspUnknown).trace = s.trace := rfl
@[simp] theorem dspUnknown_turns (s : State) : (s.dspUnknown).turns = s.turns := rfl
@[simp] theorem dspUnknown_draws (s : State) : (s.dspUnknown).draws = s.draws := rfl
@[simp] theorem dspUnknown_tick (s : State) : (s.dspUnknown).tick = s.tick := rfl

@[simp] theorem dspUnknown_dsp (s : State) : s.dspUnknown.dsp = { s.dsp with st := .unknown } := rfl

/-! ### `dspSetRate` -/

@[simp] theorem dspSetRate_cfg (s : State) (r : Word16) : (s.dspSetRate r).cfg = s.cfg := rfl
@[simp] theorem dspSetRate_ucode (s : State) (r : Word16) : (s.dspSetRate r).ucode = s.ucode := rfl
@[simp] theorem dspSetRate_seq (s : State) (r : Word16) : (s.dspSetRate r).seq = s.seq := rfl
@[simp] theorem dspSetRate_sel (s : State) (r : Word16) : (s.dspSetRate r).sel = s.sel := rfl
@[simp] theorem dspSetRate_upc (s : State) (r : Word16) : (s.dspSetRate r).upc = s.upc := rfl
@[simp] theorem dspSetRate_v (s : State) (r : Word16) : (s.dspSetRate r).v = s.v := rfl
@[simp] theorem dspSetRate_maj (s : State) (r : Word16) : (s.dspSetRate r).maj = s.maj := rfl
@[simp] theorem dspSetRate_min (s : State) (r : Word16) : (s.dspSetRate r).min = s.min := rfl
@[simp] theorem dspSetRate_b (s : State) (r : Word16) : (s.dspSetRate r).b = s.b := rfl
@[simp] theorem dspSetRate_rate (s : State) (r : Word16) : (s.dspSetRate r).rate = s.rate := rfl
@[simp] theorem dspSetRate_cnt (s : State) (r : Word16) : (s.dspSetRate r).cnt = s.cnt := rfl
@[simp] theorem dspSetRate_paddr (s : State) (r : Word16) : (s.dspSetRate r).paddr = s.paddr := rfl
@[simp] theorem dspSetRate_ch (s : State) (r : Word16) : (s.dspSetRate r).ch = s.ch := rfl
@[simp] theorem dspSetRate_k (s : State) (r : Word16) : (s.dspSetRate r).k = s.k := rfl
@[simp] theorem dspSetRate_src (s : State) (r : Word16) : (s.dspSetRate r).src = s.src := rfl
@[simp] theorem dspSetRate_acc (s : State) (r : Word16) : (s.dspSetRate r).acc = s.acc := rfl
@[simp] theorem dspSetRate_idx (s : State) (r : Word16) : (s.dspSetRate r).idx = s.idx := rfl
@[simp] theorem dspSetRate_polls (s : State) (r : Word16) : (s.dspSetRate r).polls = s.polls := rfl
@[simp] theorem dspSetRate_retries (s : State) (r : Word16) : (s.dspSetRate r).retries = s.retries := rfl
@[simp] theorem dspSetRate_resp (s : State) (r : Word16) : (s.dspSetRate r).resp = s.resp := rfl
@[simp] theorem dspSetRate_fault (s : State) (r : Word16) : (s.dspSetRate r).fault = s.fault := rfl
@[simp] theorem dspSetRate_faultInfo (s : State) (r : Word16) : (s.dspSetRate r).faultInfo = s.faultInfo := rfl
@[simp] theorem dspSetRate_offset (s : State) (r : Word16) : (s.dspSetRate r).offset = s.offset := rfl
@[simp] theorem dspSetRate_triggers (s : State) (r : Word16) : (s.dspSetRate r).triggers = s.triggers := rfl
@[simp] theorem dspSetRate_mem (s : State) (r : Word16) : (s.dspSetRate r).mem = s.mem := rfl
@[simp] theorem dspSetRate_memReset (s : State) (r : Word16) : (s.dspSetRate r).memReset = s.memReset := rfl
@[simp] theorem dspSetRate_channels (s : State) (r : Word16) : (s.dspSetRate r).channels = s.channels := rfl
@[simp] theorem dspSetRate_ff (s : State) (r : Word16) : (s.dspSetRate r).ff = s.ff := rfl
@[simp] theorem dspSetRate_lock (s : State) (r : Word16) : (s.dspSetRate r).lock = s.lock := rfl
@[simp] theorem dspSetRate_trace (s : State) (r : Word16) : (s.dspSetRate r).trace = s.trace := rfl
@[simp] theorem dspSetRate_turns (s : State) (r : Word16) : (s.dspSetRate r).turns = s.turns := rfl
@[simp] theorem dspSetRate_draws (s : State) (r : Word16) : (s.dspSetRate r).draws = s.draws := rfl
@[simp] theorem dspSetRate_tick (s : State) (r : Word16) : (s.dspSetRate r).tick = s.tick := rfl

/-! ### `dspStart` -/

@[simp] theorem dspStart_cfg (s : State) (m : Byte) (c : Word16) : (s.dspStart m c).cfg = s.cfg := rfl
@[simp] theorem dspStart_ucode (s : State) (m : Byte) (c : Word16) : (s.dspStart m c).ucode = s.ucode := rfl
@[simp] theorem dspStart_seq (s : State) (m : Byte) (c : Word16) : (s.dspStart m c).seq = s.seq := rfl
@[simp] theorem dspStart_sel (s : State) (m : Byte) (c : Word16) : (s.dspStart m c).sel = s.sel := rfl
@[simp] theorem dspStart_upc (s : State) (m : Byte) (c : Word16) : (s.dspStart m c).upc = s.upc := rfl
@[simp] theorem dspStart_v (s : State) (m : Byte) (c : Word16) : (s.dspStart m c).v = s.v := rfl
@[simp] theorem dspStart_maj (s : State) (m : Byte) (c : Word16) : (s.dspStart m c).maj = s.maj := rfl
@[simp] theorem dspStart_min (s : State) (m : Byte) (c : Word16) : (s.dspStart m c).min = s.min := rfl
@[simp] theorem dspStart_b (s : State) (m : Byte) (c : Word16) : (s.dspStart m c).b = s.b := rfl
@[simp] theorem dspStart_rate (s : State) (m : Byte) (c : Word16) : (s.dspStart m c).rate = s.rate := rfl
@[simp] theorem dspStart_cnt (s : State) (m : Byte) (c : Word16) : (s.dspStart m c).cnt = s.cnt := rfl
@[simp] theorem dspStart_paddr (s : State) (m : Byte) (c : Word16) : (s.dspStart m c).paddr = s.paddr := rfl
@[simp] theorem dspStart_ch (s : State) (m : Byte) (c : Word16) : (s.dspStart m c).ch = s.ch := rfl
@[simp] theorem dspStart_k (s : State) (m : Byte) (c : Word16) : (s.dspStart m c).k = s.k := rfl
@[simp] theorem dspStart_src (s : State) (m : Byte) (c : Word16) : (s.dspStart m c).src = s.src := rfl
@[simp] theorem dspStart_acc (s : State) (m : Byte) (c : Word16) : (s.dspStart m c).acc = s.acc := rfl
@[simp] theorem dspStart_idx (s : State) (m : Byte) (c : Word16) : (s.dspStart m c).idx = s.idx := rfl
@[simp] theorem dspStart_polls (s : State) (m : Byte) (c : Word16) : (s.dspStart m c).polls = s.polls := rfl
@[simp] theorem dspStart_retries (s : State) (m : Byte) (c : Word16) : (s.dspStart m c).retries = s.retries := rfl
@[simp] theorem dspStart_resp (s : State) (m : Byte) (c : Word16) : (s.dspStart m c).resp = s.resp := rfl
@[simp] theorem dspStart_fault (s : State) (m : Byte) (c : Word16) : (s.dspStart m c).fault = s.fault := rfl
@[simp] theorem dspStart_faultInfo (s : State) (m : Byte) (c : Word16) : (s.dspStart m c).faultInfo = s.faultInfo := rfl
@[simp] theorem dspStart_offset (s : State) (m : Byte) (c : Word16) : (s.dspStart m c).offset = s.offset := rfl
@[simp] theorem dspStart_triggers (s : State) (m : Byte) (c : Word16) : (s.dspStart m c).triggers = s.triggers := rfl
@[simp] theorem dspStart_mem (s : State) (m : Byte) (c : Word16) : (s.dspStart m c).mem = s.mem := rfl
@[simp] theorem dspStart_memReset (s : State) (m : Byte) (c : Word16) : (s.dspStart m c).memReset = s.memReset := rfl
@[simp] theorem dspStart_channels (s : State) (m : Byte) (c : Word16) : (s.dspStart m c).channels = s.channels := rfl
@[simp] theorem dspStart_ff (s : State) (m : Byte) (c : Word16) : (s.dspStart m c).ff = s.ff := rfl
@[simp] theorem dspStart_lock (s : State) (m : Byte) (c : Word16) : (s.dspStart m c).lock = s.lock := rfl
@[simp] theorem dspStart_trace (s : State) (m : Byte) (c : Word16) : (s.dspStart m c).trace = s.trace := rfl
@[simp] theorem dspStart_turns (s : State) (m : Byte) (c : Word16) : (s.dspStart m c).turns = s.turns := rfl
@[simp] theorem dspStart_draws (s : State) (m : Byte) (c : Word16) : (s.dspStart m c).draws = s.draws := rfl
@[simp] theorem dspStart_tick (s : State) (m : Byte) (c : Word16) : (s.dspStart m c).tick = s.tick := rfl

/-! ### `dspVersion` -/

@[simp] theorem dspVersion_cfg (s : State) : (s.dspVersion).cfg = s.cfg := by simp [dspVersion]
@[simp] theorem dspVersion_ucode (s : State) : (s.dspVersion).ucode = s.ucode := by simp [dspVersion]
@[simp] theorem dspVersion_seq (s : State) : (s.dspVersion).seq = s.seq := by simp [dspVersion]
@[simp] theorem dspVersion_sel (s : State) : (s.dspVersion).sel = s.sel := by simp [dspVersion]
@[simp] theorem dspVersion_upc (s : State) : (s.dspVersion).upc = s.upc := by simp [dspVersion]
@[simp] theorem dspVersion_v (s : State) : (s.dspVersion).v = s.v := by simp [dspVersion]
@[simp] theorem dspVersion_maj (s : State) : (s.dspVersion).maj = s.maj := by simp [dspVersion]
@[simp] theorem dspVersion_min (s : State) : (s.dspVersion).min = s.min := by simp [dspVersion]
@[simp] theorem dspVersion_b (s : State) : (s.dspVersion).b = s.b := by simp [dspVersion]
@[simp] theorem dspVersion_rate (s : State) : (s.dspVersion).rate = s.rate := by simp [dspVersion]
@[simp] theorem dspVersion_cnt (s : State) : (s.dspVersion).cnt = s.cnt := by simp [dspVersion]
@[simp] theorem dspVersion_paddr (s : State) : (s.dspVersion).paddr = s.paddr := by simp [dspVersion]
@[simp] theorem dspVersion_ch (s : State) : (s.dspVersion).ch = s.ch := by simp [dspVersion]
@[simp] theorem dspVersion_k (s : State) : (s.dspVersion).k = s.k := by simp [dspVersion]
@[simp] theorem dspVersion_src (s : State) : (s.dspVersion).src = s.src := by simp [dspVersion]
@[simp] theorem dspVersion_acc (s : State) : (s.dspVersion).acc = s.acc := by simp [dspVersion]
@[simp] theorem dspVersion_idx (s : State) : (s.dspVersion).idx = s.idx := by simp [dspVersion]
@[simp] theorem dspVersion_polls (s : State) : (s.dspVersion).polls = s.polls := by simp [dspVersion]
@[simp] theorem dspVersion_retries (s : State) : (s.dspVersion).retries = s.retries := by simp [dspVersion]
@[simp] theorem dspVersion_resp (s : State) : (s.dspVersion).resp = s.resp := by simp [dspVersion]
@[simp] theorem dspVersion_fault (s : State) : (s.dspVersion).fault = s.fault := by simp [dspVersion]
@[simp] theorem dspVersion_faultInfo (s : State) : (s.dspVersion).faultInfo = s.faultInfo := by simp [dspVersion]
@[simp] theorem dspVersion_offset (s : State) : (s.dspVersion).offset = s.offset := by simp [dspVersion]
@[simp] theorem dspVersion_triggers (s : State) : (s.dspVersion).triggers = s.triggers := by simp [dspVersion]
@[simp] theorem dspVersion_mem (s : State) : (s.dspVersion).mem = s.mem := by simp [dspVersion]
@[simp] theorem dspVersion_memReset (s : State) : (s.dspVersion).memReset = s.memReset := by simp [dspVersion]
@[simp] theorem dspVersion_channels (s : State) : (s.dspVersion).channels = s.channels := by simp [dspVersion]
@[simp] theorem dspVersion_ff (s : State) : (s.dspVersion).ff = s.ff := by simp [dspVersion]
@[simp] theorem dspVersion_lock (s : State) : (s.dspVersion).lock = s.lock := by simp [dspVersion]
@[simp] theorem dspVersion_trace (s : State) : (s.dspVersion).trace = s.trace := by simp [dspVersion]
@[simp] theorem dspVersion_turns (s : State) : (s.dspVersion).turns = s.turns := by simp [dspVersion]

/-! ### `readRstatus` -/

@[simp] theorem readRstatus_cfg (s : State) : (s.readRstatus.2).cfg = s.cfg := by unfold readRstatus; split <;> simp
@[simp] theorem readRstatus_ucode (s : State) : (s.readRstatus.2).ucode = s.ucode := by unfold readRstatus; split <;> simp
@[simp] theorem readRstatus_seq (s : State) : (s.readRstatus.2).seq = s.seq := by unfold readRstatus; split <;> simp
@[simp] theorem readRstatus_sel (s : State) : (s.readRstatus.2).sel = s.sel := by unfold readRstatus; split <;> simp
@[simp] theorem readRstatus_upc (s : State) : (s.readRstatus.2).upc = s.upc := by unfold readRstatus; split <;> simp
@[simp] theorem readRstatus_v (s : State) : (s.readRstatus.2).v = s.v := by unfold readRstatus; split <;> simp
@[simp] theorem readRstatus_maj (s : State) : (s.readRstatus.2).maj = s.maj := by unfold readRstatus; split <;> simp
@[simp] theorem readRstatus_min (s : State) : (s.readRstatus.2).min = s.min := by unfold readRstatus; split <;> simp
@[simp] theorem readRstatus_b (s : State) : (s.readRstatus.2).b = s.b := by unfold readRstatus; split <;> simp
@[simp] theorem readRstatus_rate (s : State) : (s.readRstatus.2).rate = s.rate := by unfold readRstatus; split <;> simp
@[simp] theorem readRstatus_cnt (s : State) : (s.readRstatus.2).cnt = s.cnt := by unfold readRstatus; split <;> simp
@[simp] theorem readRstatus_paddr (s : State) : (s.readRstatus.2).paddr = s.paddr := by unfold readRstatus; split <;> simp
@[simp] theorem readRstatus_ch (s : State) : (s.readRstatus.2).ch = s.ch := by unfold readRstatus; split <;> simp
@[simp] theorem readRstatus_k (s : State) : (s.readRstatus.2).k = s.k := by unfold readRstatus; split <;> simp
@[simp] theorem readRstatus_src (s : State) : (s.readRstatus.2).src = s.src := by unfold readRstatus; split <;> simp
@[simp] theorem readRstatus_acc (s : State) : (s.readRstatus.2).acc = s.acc := by unfold readRstatus; split <;> simp
@[simp] theorem readRstatus_idx (s : State) : (s.readRstatus.2).idx = s.idx := by unfold readRstatus; split <;> simp
@[simp] theorem readRstatus_polls (s : State) : (s.readRstatus.2).polls = s.polls := by unfold readRstatus; split <;> simp
@[simp] theorem readRstatus_retries (s : State) : (s.readRstatus.2).retries = s.retries := by unfold readRstatus; split <;> simp
@[simp] theorem readRstatus_resp (s : State) : (s.readRstatus.2).resp = s.resp := by unfold readRstatus; split <;> simp
@[simp] theorem readRstatus_fault (s : State) : (s.readRstatus.2).fault = s.fault := by unfold readRstatus; split <;> simp
@[simp] theorem readRstatus_faultInfo (s : State) : (s.readRstatus.2).faultInfo = s.faultInfo := by unfold readRstatus; split <;> simp
@[simp] theorem readRstatus_offset (s : State) : (s.readRstatus.2).offset = s.offset := by unfold readRstatus; split <;> simp
@[simp] theorem readRstatus_triggers (s : State) : (s.readRstatus.2).triggers = s.triggers := by unfold readRstatus; split <;> simp
@[simp] theorem readRstatus_mem (s : State) : (s.readRstatus.2).mem = s.mem := by unfold readRstatus; split <;> simp
@[simp] theorem readRstatus_memReset (s : State) : (s.readRstatus.2).memReset = s.memReset := by unfold readRstatus; split <;> simp
@[simp] theorem readRstatus_dsp (s : State) : (s.readRstatus.2).dsp = s.dsp := by unfold readRstatus; split <;> simp
@[simp] theorem readRstatus_channels (s : State) : (s.readRstatus.2).channels = s.channels := by unfold readRstatus; split <;> simp
@[simp] theorem readRstatus_ff (s : State) : (s.readRstatus.2).ff = s.ff := by unfold readRstatus; split <;> simp
@[simp] theorem readRstatus_lock (s : State) : (s.readRstatus.2).lock = s.lock := by unfold readRstatus; split <;> simp
@[simp] theorem readRstatus_trace (s : State) : (s.readRstatus.2).trace = s.trace := by unfold readRstatus; split <;> simp
@[simp] theorem readRstatus_turns (s : State) : (s.readRstatus.2).turns = s.turns := by unfold readRstatus; split <;> simp

/-! ### `readWstatus` -/

@[simp] theorem readWstatus_cfg (s : State) : (s.readWstatus.2).cfg = s.cfg := by unfold readWstatus; split <;> simp
@[simp] theorem readWstatus_ucode (s : State) : (s.readWstatus.2).ucode = s.ucode := by unfold readWstatus; split <;> simp
@[simp] theorem readWstatus_seq (s : State) : (s.readWstatus.2).seq = s.seq := by unfold readWstatus; split <;> simp
@[simp] theorem readWstatus_sel (s : State) : (s.readWstatus.2).sel = s.sel := by unfold readWstatus; split <;> simp
@[simp] theorem readWstatus_upc (s : State) : (s.readWstatus.2).upc = s.upc := by unfold readWstatus; split <;> simp
@[simp] theorem readWstatus_v (s : State) : (s.readWstatus.2).v = s.v := by unfold readWstatus; split <;> simp
@[simp] theorem readWstatus_maj (s : State) : (s.readWstatus.2).maj = s.maj := by unfold readWstatus; split <;> simp
@[simp] theorem readWstatus_min (s : State) : (s.readWstatus.2).min = s.min := by unfold readWstatus; split <;> simp
@[simp] theorem readWstatus_b (s : State) : (s.readWstatus.2).b = s.b := by unfold readWstatus; split <;> simp
@[simp] theorem readWstatus_rate (s : State) : (s.readWstatus.2).rate = s.rate := by unfold readWstatus; split <;> simp
@[simp] theorem readWstatus_cnt (s : State) : (s.readWstatus.2).cnt = s.cnt := by unfold readWstatus; split <;> simp
@[simp] theorem readWstatus_paddr (s : State) : (s.readWstatus.2).paddr = s.paddr := by unfold readWstatus; split <;> simp
@[simp] theorem readWstatus_ch (s : State) : (s.readWstatus.2).ch = s.ch := by unfold readWstatus; split <;> simp
@[simp] theorem readWstatus_k (s : State) : (s.readWstatus.2).k = s.k := by unfold readWstatus; split <;> simp
@[simp] theorem readWstatus_src (s : State) : (s.readWstatus.2).src = s.src := by unfold readWstatus; split <;> simp
@[simp] theorem readWstatus_acc (s : State) : (s.readWstatus.2).acc = s.acc := by unfold readWstatus; split <;> simp
@[simp] theorem readWstatus_idx (s : State) : (s.readWstatus.2).idx = s.idx := by unfold readWstatus; split <;> simp
@[simp] theorem readWstatus_polls (s : State) : (s.readWstatus.2).polls = s.polls := by unfold readWstatus; split <;> simp
@[simp] theorem readWstatus_retries (s : State) : (s.readWstatus.2).retries = s.retries := by unfold readWstatus; split <;> simp
@[simp] theorem readWstatus_resp (s : State) : (s.readWstatus.2).resp = s.resp := by unfold readWstatus; split <;> simp
@[simp] theorem readWstatus_fault (s : State) : (s.readWstatus.2).fault = s.fault := by unfold readWstatus; split <;> simp
@[simp] theorem readWstatus_faultInfo (s : State) : (s.readWstatus.2).faultInfo = s.faultInfo := by unfold readWstatus; split <;> simp
@[simp] theorem readWstatus_offset (s : State) : (s.readWstatus.2).offset = s.offset := by unfold readWstatus; split <;> simp
@[simp] theorem readWstatus_triggers (s : State) : (s.readWstatus.2).triggers = s.triggers := by unfold readWstatus; split <;> simp
@[simp] theorem readWstatus_mem (s : State) : (s.readWstatus.2).mem = s.mem := by unfold readWstatus; split <;> simp
@[simp] theorem readWstatus_memReset (s : State) : (s.readWstatus.2).memReset = s.memReset := by unfold readWstatus; split <;> simp
@[simp] theorem readWstatus_dsp (s : State) : (s.readWstatus.2).dsp = s.dsp := by unfold readWstatus; split <;> simp
@[simp] theorem readWstatus_channels (s : State) : (s.readWstatus.2).channels = s.channels := by unfold readWstatus; split <;> simp
@[simp] theorem readWstatus_ff (s : State) : (s.readWstatus.2).ff = s.ff := by unfold readWstatus; split <;> simp
@[simp] theorem readWstatus_lock (s : State) : (s.readWstatus.2).lock = s.lock := by unfold readWstatus; split <;> simp
@[simp] theorem readWstatus_trace (s : State) : (s.readWstatus.2).trace = s.trace := by unfold readWstatus; split <;> simp
@[simp] theorem readWstatus_turns (s : State) : (s.readWstatus.2).turns = s.turns := by unfold readWstatus; split <;> simp

/-! ### `readRdata` -/

@[simp] theorem readRdata_cfg (s : State) : (s.readRdata.2).cfg = s.cfg := by unfold readRdata; split <;> [skip; split] <;> simp
@[simp] theorem readRdata_ucode (s : State) : (s.readRdata.2).ucode = s.ucode := by unfold readRdata; split <;> [skip; split] <;> simp
@[simp] theorem readRdata_seq (s : State) : (s.readRdata.2).seq = s.seq := by unfold readRdata; split <;> [skip; split] <;> simp
@[simp] theorem readRdata_sel (s : State) : (s.readRdata.2).sel = s.sel := by unfold readRdata; split <;> [skip; split] <;> simp
@[simp] theorem readRdata_upc (s : State) : (s.readRdata.2).upc = s.upc := by unfold readRdata; split <;> [skip; split] <;> simp
@[simp] theorem readRdata_v (s : State) : (s.readRdata.2).v = s.v := by unfold readRdata; split <;> [skip; split] <;> simp
@[simp] theorem readRdata_maj (s : State) : (s.readRdata.2).maj = s.maj := by unfold readRdata; split <;> [skip; split] <;> simp
@[simp] theorem readRdata_min (s : State) : (s.readRdata.2).min = s.min := by unfold readRdata; split <;> [skip; split] <;> simp
@[simp] theorem readRdata_b (s : State) : (s.readRdata.2).b = s.b := by unfold readRdata; split <;> [skip; split] <;> simp
@[simp] theorem readRdata_rate (s : State) : (s.readRdata.2).rate = s.rate := by unfold readRdata; split <;> [skip; split] <;> simp
@[simp] theorem readRdata_cnt (s : State) : (s.readRdata.2).cnt = s.cnt := by unfold readRdata; split <;> [skip; split] <;> simp
@[simp] theorem readRdata_paddr (s : State) : (s.readRdata.2).paddr = s.paddr := by unfold readRdata; split <;> [skip; split] <;> simp
@[simp] theorem readRdata_ch (s : State) : (s.readRdata.2).ch = s.ch := by unfold readRdata; split <;> [skip; split] <;> simp
@[simp] theorem readRdata_k (s : State) : (s.readRdata.2).k = s.k := by unfold readRdata; split <;> [skip; split] <;> simp
@[simp] theorem readRdata_src (s : State) : (s.readRdata.2).src = s.src := by unfold readRdata; split <;> [skip; split] <;> simp
@[simp] theorem readRdata_acc (s : State) : (s.readRdata.2).acc = s.acc := by unfold readRdata; split <;> [skip; split] <;> simp
@[simp] theorem readRdata_idx (s : State) : (s.readRdata.2).idx = s.idx := by unfold readRdata; split <;> [skip; split] <;> simp
@[simp] theorem readRdata_polls (s : State) : (s.readRdata.2).polls = s.polls := by unfold readRdata; split <;> [skip; split] <;> simp
@[simp] theorem readRdata_retries (s : State) : (s.readRdata.2).retries = s.retries := by unfold readRdata; split <;> [skip; split] <;> simp
@[simp] theorem readRdata_resp (s : State) : (s.readRdata.2).resp = s.resp := by unfold readRdata; split <;> [skip; split] <;> simp
@[simp] theorem readRdata_fault (s : State) : (s.readRdata.2).fault = s.fault := by unfold readRdata; split <;> [skip; split] <;> simp
@[simp] theorem readRdata_faultInfo (s : State) : (s.readRdata.2).faultInfo = s.faultInfo := by unfold readRdata; split <;> [skip; split] <;> simp
@[simp] theorem readRdata_offset (s : State) : (s.readRdata.2).offset = s.offset := by unfold readRdata; split <;> [skip; split] <;> simp
@[simp] theorem readRdata_triggers (s : State) : (s.readRdata.2).triggers = s.triggers := by unfold readRdata; split <;> [skip; split] <;> simp
@[simp] theorem readRdata_mem (s : State) : (s.readRdata.2).mem = s.mem := by unfold readRdata; split <;> [skip; split] <;> simp
@[simp] theorem readRdata_memReset (s : State) : (s.readRdata.2).memReset = s.memReset := by unfold readRdata; split <;> [skip; split] <;> simp
@[simp] theorem readRdata_channels (s : State) : (s.readRdata.2).channels = s.channels := by unfold readRdata; split <;> [skip; split] <;> simp
@[simp] theorem readRdata_ff (s : State) : (s.readRdata.2).ff = s.ff := by unfold readRdata; split <;> [skip; split] <;> simp
@[simp] theorem readRdata_lock (s : State) : (s.readRdata.2).lock = s.lock := by unfold readRdata; split <;> [skip; split] <;> simp
@[simp] theorem readRdata_trace (s : State) : (s.readRdata.2).trace = s.trace := by unfold readRdata; split <;> [skip; split] <;> simp
@[simp] theorem readRdata_turns (s : State) : (s.readRdata.2).turns = s.turns := by unfold readRdata; split <;> [skip; split] <;> simp

/-! ### `writeReset` -/

@[simp] theorem writeReset_cfg (s : State) (x : Byte) : (s.writeReset x).cfg = s.cfg := by unfold writeReset; split <;> [skip; split] <;> simp
@[simp] theorem writeReset_ucode (s : State) (x : Byte) : (s.writeReset x).ucode = s.ucode := by unfold writeReset; split <;> [skip; split] <;> simp
@[simp] theorem writeReset_seq (s : State) (x : Byte) : (s.writeReset x).seq = s.seq := by unfold writeReset; split <;> [skip; split] <;> simp
@[simp] theorem writeReset_sel (s : State) (x : Byte) : (s.writeReset x).sel = s.sel := by unfold writeReset; split <;> [skip; split] <;> simp
@[simp] theorem writeReset_upc (s : State) (x : Byte) : (s.writeReset x).upc = s.upc := by unfold writeReset; split <;> [skip; split] <;> simp
@[simp] theorem writeReset_v (s : State) (x : Byte) : (s.writeReset x).v = s.v := by unfold writeReset; split <;> [skip; split] <;> simp
@[simp] theorem writeReset_maj (s : State) (x : Byte) : (s.writeReset x).maj = s.maj := by unfold writeReset; split <;> [skip; split] <;> simp
@[simp] theorem writeReset_min (s : State) (x : Byte) : (s.writeReset x).min = s.min := by unfold writeReset; split <;> [skip; split] <;> simp
@[simp] theorem writeReset_b (s : State) (x : Byte) : (s.writeReset x).b = s.b := by unfold writeReset; split <;> [skip; split] <;> simp
@[simp] theorem writeReset_rate (s : State) (x : Byte) : (s.writeReset x).rate = s.rate := by unfold writeReset; split <;> [skip; split] <;> simp
@[simp] theorem writeReset_cnt (s : State) (x : Byte) : (s.writeReset x).cnt = s.cnt := by unfold writeReset; split <;> [skip; split] <;> simp
@[simp] theorem writeReset_paddr (s : State) (x : Byte) : (s.writeReset x).paddr = s.paddr := by unfold writeReset; split <;> [skip; split] <;> simp
@[simp] theorem writeReset_ch (s : State) (x : Byte) : (s.writeReset x).ch = s.ch := by unfold writeReset; split <;> [skip; split] <;> simp
@[simp] theorem writeReset_k (s : State) (x : Byte) : (s.writeReset x).k = s.k := by unfold writeReset; split <;> [skip; split] <;> simp
@[simp] theorem writeReset_src (s : State) (x : Byte) : (s.writeReset x).src = s.src := by unfold writeReset; split <;> [skip; split] <;> simp
@[simp] theorem writeReset_acc (s : State) (x : Byte) : (s.writeReset x).acc = s.acc := by unfold writeReset; split <;> [skip; split] <;> simp
@[simp] theorem writeReset_idx (s : State) (x : Byte) : (s.writeReset x).idx = s.idx := by unfold writeReset; split <;> [skip; split] <;> simp
@[simp] theorem writeReset_polls (s : State) (x : Byte) : (s.writeReset x).polls = s.polls := by unfold writeReset; split <;> [skip; split] <;> simp
@[simp] theorem writeReset_retries (s : State) (x : Byte) : (s.writeReset x).retries = s.retries := by unfold writeReset; split <;> [skip; split] <;> simp
@[simp] theorem writeReset_resp (s : State) (x : Byte) : (s.writeReset x).resp = s.resp := by unfold writeReset; split <;> [skip; split] <;> simp
@[simp] theorem writeReset_fault (s : State) (x : Byte) : (s.writeReset x).fault = s.fault := by unfold writeReset; split <;> [skip; split] <;> simp
@[simp] theorem writeReset_faultInfo (s : State) (x : Byte) : (s.writeReset x).faultInfo = s.faultInfo := by unfold writeReset; split <;> [skip; split] <;> simp
@[simp] theorem writeReset_offset (s : State) (x : Byte) : (s.writeReset x).offset = s.offset := by unfold writeReset; split <;> [skip; split] <;> simp
@[simp] theorem writeReset_triggers (s : State) (x : Byte) : (s.writeReset x).triggers = s.triggers := by unfold writeReset; split <;> [skip; split] <;> simp
@[simp] theorem writeReset_mem (s : State) (x : Byte) : (s.writeReset x).mem = s.mem := by unfold writeReset; split <;> [skip; split] <;> simp
@[simp] theorem writeReset_memReset (s : State) (x : Byte) : (s.writeReset x).memReset = s.memReset := by unfold writeReset; split <;> [skip; split] <;> simp
@[simp] theorem writeReset_channels (s : State) (x : Byte) : (s.writeReset x).channels = s.channels := by unfold writeReset; split <;> [skip; split] <;> simp
@[simp] theorem writeReset_ff (s : State) (x : Byte) : (s.writeReset x).ff = s.ff := by unfold writeReset; split <;> [skip; split] <;> simp
@[simp] theorem writeReset_lock (s : State) (x : Byte) : (s.writeReset x).lock = s.lock := by unfold writeReset; split <;> [skip; split] <;> simp
@[simp] theorem writeReset_trace (s : State) (x : Byte) : (s.writeReset x).trace = s.trace := by unfold writeReset; split <;> [skip; split] <;> simp
@[simp] theorem writeReset_turns (s : State) (x : Byte) : (s.writeReset x).turns = s.turns := by unfold writeReset; split <;> [skip; split] <;> simp
@[simp] theorem writeReset_draws (s : State) (x : Byte) : (s.writeReset x).draws = s.draws := by unfold writeReset; split <;> [skip; split] <;> simp
@[simp] theorem writeReset_tick (s : State) (x : Byte) : (s.writeReset x).tick = s.tick := by unfold writeReset; split <;> [skip; split] <;> simp

/-! ### `dspDelay` -/

@[simp] theorem dspDelay_cfg (s : State) (d : Nat) : (s.dspDelay d).cfg = s.cfg := by unfold dspDelay; split <;> simp
@[simp] theorem dspDelay_ucode (s : State) (d : Nat) : (s.dspDelay d).ucode = s.ucode := by unfold dspDelay; split <;> simp
@[simp] theorem dspDelay_seq (s : State) (d : Nat) : (s.dspDelay d).seq = s.seq := by unfold dspDelay; split <;> simp
@[simp] theorem dspDelay_sel (s : State) (d : Nat) : (s.dspDelay d).sel = s.sel := by unfold dspDelay; split <;> simp
@[simp] theorem dspDelay_upc (s : State) (d : Nat) : (s.dspDelay d).upc = s.upc := by unfold dspDelay; split <;> simp
@[simp] theorem dspDelay_v (s : State) (d : Nat) : (s.dspDelay d).v = s.v := by unfold dspDelay; split <;> simp
@[simp] theorem dspDelay_maj (s : State) (d : Nat) : (s.dspDelay d).maj = s.maj := by unfold dspDelay; split <;> simp
@[simp] theorem dspDelay_min (s : State) (d : Nat) : (s.dspDelay d).min = s.min := by unfold dspDelay; split <;> simp
@[simp] theorem dspDelay_b (s : State) (d : Nat) : (s.dspDelay d).b = s.b := by unfold dspDelay; split <;> simp
@[simp] theorem dspDelay_rate (s : State) (d : Nat) : (s.dspDelay d).rate = s.rate := by unfold dspDelay; split <;> simp
@[simp] theorem dspDelay_cnt (s : State) (d : Nat) : (s.dspDelay d).cnt = s.cnt := by unfold dspDelay; split <;> simp
@[simp] theorem dspDelay_paddr (s : State) (d : Nat) : (s.dspDelay d).paddr = s.paddr := by unfold dspDelay; split <;> simp
@[simp] theorem dspDelay_ch (s : State) (d : Nat) : (s.dspDelay d).ch = s.ch := by unfold dspDelay; split <;> simp
@[simp] theorem dspDelay_k (s : State) (d : Nat) : (s.dspDelay d).k = s.k := by unfold dspDelay; split <;> simp
@[simp] theorem dspDelay_src (s : State) (d : Nat) : (s.dspDelay d).src = s.src := by unfold dspDelay; split <;> simp
@[simp] theorem dspDelay_acc (s : State) (d : Nat) : (s.dspDelay d).acc = s.acc := by unfold dspDelay; split <;> simp
@[simp] theorem dspDelay_idx (s : State) (d : Nat) : (s.dspDelay d).idx = s.idx := by unfold dspDelay; split <;> simp
@[simp] theorem dspDelay_polls (s : State) (d : Nat) : (s.dspDelay d).polls = s.polls := by unfold dspDelay; split <;> simp
@[simp] theorem dspDelay_retries (s : State) (d : Nat) : (s.dspDelay d).retries = s.retries := by unfold dspDelay; split <;> simp
@[simp] theorem dspDelay_resp (s : State) (d : Nat) : (s.dspDelay d).resp = s.resp := by unfold dspDelay; split <;> simp
@[simp] theorem dspDelay_fault (s : State) (d : Nat) : (s.dspDelay d).fault = s.fault := by unfold dspDelay; split <;> simp
@[simp] theorem dspDelay_faultInfo (s : State) (d : Nat) : (s.dspDelay d).faultInfo = s.faultInfo := by unfold dspDelay; split <;> simp
@[simp] theorem dspDelay_offset (s : State) (d : Nat) : (s.dspDelay d).offset = s.offset := by unfold dspDelay; split <;> simp
@[simp] theorem dspDelay_triggers (s : State) (d : Nat) : (s.dspDelay d).triggers = s.triggers := by unfold dspDelay; split <;> simp
@[simp] theorem dspDelay_mem (s : State) (d : Nat) : (s.dspDelay d).mem = s.mem := by unfold dspDelay; split <;> simp
@[simp] theorem dspDelay_memReset (s : State) (d : Nat) : (s.dspDelay d).memReset = s.memReset := by unfold dspDelay; split <;> simp
@[simp] theorem dspDelay_channels (s : State) (d : Nat) : (s.dspDelay d).channels = s.channels := by unfold dspDelay; split <;> simp
@[simp] theorem dspDelay_ff (s : State) (d : Nat) : (s.dspDelay d).ff = s.ff := by unfold dspDelay; split <;> simp
@[simp] theorem dspDelay_lock (s : State) (d : Nat) : (s.dspDelay d).lock = s.lock := by unfold dspDelay; split <;> simp
@[simp] theorem dspDelay_trace (s : State) (d : Nat) : (s.dspDelay d).trace = s.trace := by unfold dspDelay; split <;> simp
@[simp] theorem dspDelay_turns (s : State) (d : Nat) : (s.dspDelay d).turns = s.turns := by unfold dspDelay; split <;> simp
@[simp] theorem dspDelay_draws (s : State) (d : Nat) : (s.dspDelay d).draws = s.draws := by unfold dspDelay; split <;> simp
@[simp] theorem dspDelay_tick (s : State) (d : Nat) : (s.dspDelay d).tick = s.tick := by unfold dspDelay; split <;> simp

/-! ### `dspParse` -/

@[simp] theorem dspParse_cfg (s : State) (x : Byte) : (s.dspParse x).cfg = s.cfg := by unfold dspParse; (repeat' split) <;> simp
@[simp] theorem dspParse_ucode (s : State) (x : Byte) : (s.dspParse x).ucode = s.ucode := by unfold dspParse; (repeat' split) <;> simp
@[simp] theorem dspParse_seq (s : State) (x : Byte) : (s.dspParse x).seq = s.seq := by unfold dspParse; (repeat' split) <;> simp
@[simp] theorem dspParse_sel (s : State) (x : Byte) : (s.dspParse x).sel = s.sel := by unfold dspParse; (repeat' split) <;> simp
@[simp] theorem dspParse_upc (s : State) (x : Byte) : (s.dspParse x).upc = s.upc := by unfold dspParse; (repeat' split) <;> simp
@[simp] theorem dspParse_v (s : State) (x : Byte) : (s.dspParse x).v = s.v := by unfold dspParse; (repeat' split) <;> simp
@[simp] theorem dspParse_maj (s : State) (x : Byte) : (s.dspParse x).maj = s.maj := by unfold dspParse; (repeat' split) <;> simp
@[simp] theorem dspParse_min (s : State) (x : Byte) : (s.dspParse x).min = s.min := by unfold dspParse; (repeat' split) <;> simp
@[simp] theorem dspParse_b (s : State) (x : Byte) : (s.dspParse x).b = s.b := by unfold dspParse; (repeat' split) <;> simp
@[simp] theorem dspParse_rate (s : State) (x : Byte) : (s.dspParse x).rate = s.rate := by unfold dspParse; (repeat' split) <;> simp
@[simp] theorem dspParse_cnt (s : State) (x : Byte) : (s.dspParse x).cnt = s.cnt := by unfold dspParse; (repeat' split) <;> simp
@[simp] theorem dspParse_paddr (s : State) (x : Byte) : (s.dspParse x).paddr = s.paddr := by unfold dspParse; (repeat' split) <;> simp
@[simp] theorem dspParse_ch (s : State) (x : Byte) : (s.dspParse x).ch = s.ch := by unfold dspParse; (repeat' split) <;> simp
@[simp] theorem dspParse_k (s : State) (x : Byte) : (s.dspParse x).k = s.k := by unfold dspParse; (repeat' split) <;> simp
@[simp] theorem dspParse_src (s : State) (x : Byte) : (s.dspParse x).src = s.src := by unfold dspParse; (repeat' split) <;> simp
@[simp] theorem dspParse_acc (s : State) (x : Byte) : (s.dspParse x).acc = s.acc := by unfold dspParse; (repeat' split) <;> simp
@[simp] theorem dspParse_idx (s : State) (x : Byte) : (s.dspParse x).idx = s.idx := by unfold dspParse; (repeat' split) <;> simp
@[simp] theorem dspParse_polls (s : State) (x : Byte) : (s.dspParse x).polls = s.polls := by unfold dspParse; (repeat' split) <;> simp
@[simp] theorem dspParse_retries (s : State) (x : Byte) : (s.dspParse x).retries = s.retries := by unfold dspParse; (repeat' split) <;> simp
@[simp] theorem dspParse_resp (s : State) (x : Byte) : (s.dspParse x).resp = s.resp := by unfold dspParse; (repeat' split) <;> simp
@[simp] theorem dspParse_fault (s : State) (x : Byte) : (s.dspParse x).fault = s.fault := by unfold dspParse; (repeat' split) <;> simp
@[simp] theorem dspParse_faultInfo (s : State) (x : Byte) : (s.dspParse x).faultInfo = s.faultInfo := by unfold dspParse; (repeat' split) <;> simp
@[simp] theorem dspParse_offset (s : State) (x : Byte) : (s.dspParse x).offset = s.offset := by unfold dspParse; (repeat' split) <;> simp
@[simp] theorem dspParse_triggers (s : State) (x : Byte) : (s.dspParse x).triggers = s.triggers := by unfold dspParse; (repeat' split) <;> simp
@[simp] theorem dspParse_mem (s : State) (x : Byte) : (s.dspParse x).mem = s.mem := by unfold dspParse; (repeat' split) <;> simp
@[simp] theorem dspParse_memReset (s : State) (x : Byte) : (s.dspParse x).memReset = s.memReset := by unfold dspParse; (repeat' split) <;> simp
@[simp] theorem dspParse_channels (s : State) (x : Byte) : (s.dspParse x).channels = s.channels := by unfold dspParse; (repeat' split) <;> simp
@[simp] theorem dspParse_ff (s : State) (x : Byte) : (s.dspParse x).ff = s.ff := by unfold dspParse; (repeat' split) <;> simp
@[simp] theorem dspParse_lock (s : State) (x : Byte) : (s.dspParse x).lock = s.lock := by unfold dspParse; (repeat' split) <;> simp
@[simp] theorem dspParse_trace (s : State) (x : Byte) : (s.dspParse x).trace = s.trace := by unfold dspParse; (repeat' split) <;> simp
@[simp] theorem dspParse_turns (s : State) (x : Byte) : (s.dspParse x).turns = s.turns := by unfold dspParse; (repeat' split) <;> simp

/-! ### `writeWdata` -/

@[simp] theorem writeWdata_cfg (s : State) (x : Byte) : (s.writeWdata x).cfg = s.cfg := by unfold writeWdata; simp only []; split <;> simp
@[simp] theorem writeWdata_ucode (s : State) (x : Byte) : (s.writeWdata x).ucode = s.ucode := by unfold writeWdata; simp only []; split <;> simp
@[simp] theorem writeWdata_seq (s : State) (x : Byte) : (s.writeWdata x).seq = s.seq := by unfold writeWdata; simp only []; split <;> simp
@[simp] theorem writeWdata_sel (s : State) (x : Byte) : (s.writeWdata x).sel = s.sel := by unfold writeWdata; simp only []; split <;> simp
@[simp] theorem writeWdata_upc (s : State) (x : Byte) : (s.writeWdata x).upc = s.upc := by unfold writeWdata; simp only []; split <;> simp
@[simp] theorem writeWdata_v (s : State) (x : Byte) : (s.writeWdata x).v = s.v := by unfold writeWdata; simp only []; split <;> simp
@[simp] theorem writeWdata_maj (s : State) (x : Byte) : (s.writeWdata x).maj = s.maj := by unfold writeWdata; simp only []; split <;> simp
@[simp] theorem writeWdata_min (s : State) (x : Byte) : (s.writeWdata x).min = s.min := by unfold writeWdata; simp only []; split <;> simp
@[simp] theorem writeWdata_b (s : State) (x : Byte) : (s.writeWdata x).b = s.b := by unfold writeWdata; simp only []; split <;> simp
@[simp] theorem writeWdata_rate (s : State) (x : Byte) : (s.writeWdata x).rate = s.rate := by unfold writeWdata; simp only []; split <;> simp
@[simp] theorem writeWdata_cnt (s : State) (x : Byte) : (s.writeWdata x).cnt = s.cnt := by unfold writeWdata; simp only []; split <;> simp
@[simp] theorem writeWdata_paddr (s : State) (x : Byte) : (s.writeWdata x).paddr = s.paddr := by unfold writeWdata; simp only []; split <;> simp
@[simp] theorem writeWdata_ch (s : State) (x : Byte) : (s.writeWdata x).ch = s.ch := by unfold writeWdata; simp only []; split <;> simp
@[simp] theorem writeWdata_k (s : State) (x : Byte) : (s.writeWdata x).k = s.k := by unfold writeWdata; simp only []; split <;> simp
@[simp] theorem writeWdata_src (s : State) (x : Byte) : (s.writeWdata x).src = s.src := by unfold writeWdata; simp only []; split <;> simp
@[simp] theorem writeWdata_acc (s : State) (x : Byte) : (s.writeWdata x).acc = s.acc := by unfold writeWdata; simp only []; split <;> simp
@[simp] theorem writeWdata_idx (s : State) (x : Byte) : (s.writeWdata x).idx = s.idx := by unfold writeWdata; simp only []; split <;> simp
@[simp] theorem writeWdata_polls (s : State) (x : Byte) : (s.writeWdata x).polls = s.polls := by unfold writeWdata; simp only []; split <;> simp
@[simp] theorem writeWdata_retries (s : State) (x : Byte) : (s.writeWdata x).retries = s.retries := by unfold writeWdata; simp only []; split <;> simp
@[simp] theorem writeWdata_resp (s : State) (x : Byte) : (s.writeWdata x).resp = s.resp := by unfold writeWdata; simp only []; split <;> simp
@[simp] theorem writeWdata_fault (s : State) (x : Byte) : (s.writeWdata x).fault = s.fault := by unfold writeWdata; simp only []; split <;> simp
@[simp] theorem writeWdata_faultInfo (s : State) (x : Byte) : (s.writeWdata x).faultInfo = s.faultInfo := by unfold writeWdata; simp only []; split <;> simp
@[simp] theorem writeWdata_offset (s : State) (x : Byte) : (s.writeWdata x).offset = s.offset := by unfold writeWdata; simp only []; split <;> simp
@[simp] theorem writeWdata_triggers (s : State) (x : Byte) : (s.writeWdata x).triggers = s.triggers := by unfold writeWdata; simp only []; split <;> simp
@[simp] theorem writeWdata_mem (s : State) (x : Byte) : (s.writeWdata x).mem = s.mem := by unfold writeWdata; simp only []; split <;> simp
@[simp] theorem writeWdata_memReset (s : State) (x : Byte) : (s.writeWdata x).memReset = s.memReset := by unfold writeWdata; simp only []; split <;> simp
@[simp] theorem writeWdata_channels (s : State) (x : Byte) : (s.writeWdata x).channels = s.channels := by unfold writeWdata; simp only []; split <;> simp
@[simp] theorem writeWdata_ff (s : State) (x : Byte) : (s.writeWdata x).ff = s.ff := by unfold writeWdata; simp only []; split <;> simp
@[simp] theorem writeWdata_lock (s : State) (x : Byte) : (s.writeWdata x).lock = s.lock := by unfold writeWdata; simp only []; split <;> simp
@[simp] theorem writeWdata_trace (s : State) (x : Byte) : (s.writeWdata x).trace = s.trace := by unfold writeWdata; simp only []; split <;> simp
@[simp] theorem writeWdata_turns (s : State) (x : Byte) : (s.writeWdata x).turns = s.turns := by unfold writeWdata; simp only []; split <;> simp

/-! ### `portWrite` -/

@[simp] theorem portWrite_cfg (s : State) (r : OutReg) (x : Byte) : (s.portWrite r x).cfg = s.cfg := by cases r <;> simp [portWrite]
@[simp] theorem portWrite_ucode (s : State) (r : OutReg) (x : Byte) : (s.portWrite r x).ucode = s.ucode := by cases r <;> simp [portWrite]
@[simp] theorem portWrite_seq (s : State) (r : OutReg) (x : Byte) : (s.portWrite r x).seq = s.seq := by cases r <;> simp [portWrite]
@[simp] theorem portWrite_sel (s : State) (r : OutReg) (x : Byte) : (s.portWrite r x).sel = s.sel := by cases r <;> simp [portWrite]
@[simp] theorem portWrite_upc (s : State) (r : OutReg) (x : Byte) : (s.portWrite r x).upc = s.upc := by cases r <;> simp [portWrite]
@[simp] theorem portWrite_v (s : State) (r : OutReg) (x : Byte) : (s.portWrite r x).v = s.v := by cases r <;> simp [portWrite]
@[simp] theorem portWrite_maj (s : State) (r : OutReg) (x : Byte) : (s.portWrite r x).maj = s.maj := by cases r <;> simp [portWrite]
@[simp] theorem portWrite_min (s : State) (r : OutReg) (x : Byte) : (s.portWrite r x).min = s.min := by cases r <;> simp [portWrite]
@[simp] theorem portWrite_b (s : State) (r : OutReg) (x : Byte) : (s.portWrite r x).b = s.b := by cases r <;> simp [portWrite]
@[simp] theorem portWrite_rate (s : State) (r : OutReg) (x : Byte) : (s.portWrite r x).rate = s.rate := by cases r <;> simp [portWrite]
@[simp] theorem portWrite_cnt (s : State) (r : OutReg) (x : Byte) : (s.portWrite r x).cnt = s.cnt := by cases r <;> simp [portWrite]
@[simp] theorem portWrite_paddr (s : State) (r : OutReg) (x : Byte) : (s.portWrite r x).paddr = s.paddr := by cases r <;> simp [portWrite]
@[simp] theorem portWrite_ch (s : State) (r : OutReg) (x : Byte) : (s.portWrite r x).ch = s.ch := by cases r <;> simp [portWrite]
@[simp] theorem portWrite_k (s : State) (r : OutReg) (x : Byte) : (s.portWrite r x).k = s.k := by cases r <;> simp [portWrite]
@[simp] theorem portWrite_src (s : State) (r : OutReg) (x : Byte) : (s.portWrite r x).src = s.src := by cases r <;> simp [portWrite]
@[simp] theorem portWrite_acc (s : State) (r : OutReg) (x : Byte) : (s.portWrite r x).acc = s.acc := by cases r <;> simp [portWrite]
@[simp] theorem portWrite_idx (s : State) (r : OutReg) (x : Byte) : (s.portWrite r x).idx = s.idx := by cases r <;> simp [portWrite]
@[simp] theorem portWrite_polls (s : State) (r : OutReg) (x : Byte) : (s.portWrite r x).polls = s.polls := by cases r <;> simp [portWrite]
@[simp] theorem portWrite_retries (s : State) (r : OutReg) (x : Byte) : (s.portWrite r x).retries = s.retries := by cases r <;> simp [portWrite]
@[simp] theorem portWrite_resp (s : State) (r : OutReg) (x : Byte) : (s.portWrite r x).resp = s.resp := by cases r <;> simp [portWrite]
@[simp] theorem portWrite_fault (s : State) (r : OutReg) (x : Byte) : (s.portWrite r x).fault = s.fault := by cases r <;> simp [portWrite]
@[simp] theorem portWrite_faultInfo (s : State) (r : OutReg) (x : Byte) : (s.portWrite r x).faultInfo = s.faultInfo := by cases r <;> simp [portWrite]
@[simp] theorem portWrite_offset (s : State) (r : OutReg) (x : Byte) : (s.portWrite r x).offset = s.offset := by cases r <;> simp [portWrite]
@[simp] theorem portWrite_triggers (s : State) (r : OutReg) (x : Byte) : (s.portWrite r x).triggers = s.triggers := by cases r <;> simp [portWrite]
@[simp] theorem portWrite_mem (s : State) (r : OutReg) (x : Byte) : (s.portWrite r x).mem = s.mem := by cases r <;> simp [portWrite]
@[simp] theorem portWrite_memReset (s : State) (r : OutReg) (x : Byte) : (s.portWrite r x).memReset = s.memReset := by cases r <;> simp [portWrite]
@[simp] theorem portWrite_channels (s : State) (r : OutReg) (x : Byte) : (s.portWrite r x).channels = s.channels := by cases r <;> simp [portWrite]
@[simp] theorem portWrite_ff (s : State) (r : OutReg) (x : Byte) : (s.portWrite r x).ff = s.ff := by cases r <;> simp [portWrite]
@[simp] theorem portWrite_lock (s : State) (r : OutReg) (x : Byte) : (s.portWrite r x).lock = s.lock := by cases r <;> simp [portWrite]
@[simp] theorem portWrite_trace (s : State) (r : OutReg) (x : Byte) : (s.portWrite r x).trace = s.trace := by cases r <;> simp [portWrite]
@[simp] theorem portWrite_turns (s : State) (r : OutReg) (x : Byte) : (s.portWrite r x).turns = s.turns := by cases r <;> simp [portWrite]

/-! ### `stepSession` -/

@[simp] theorem stepSession_cfg (s : State) : (s.stepSession).cfg = s.cfg := by unfold stepSession; split <;> [split; skip] <;> simp
@[simp] theorem stepSession_ucode (s : State) : (s.stepSession).ucode = s.ucode := by unfold stepSession; split <;> [split; skip] <;> simp
@[simp] theorem stepSession_seq (s : State) : (s.stepSession).seq = s.seq := by unfold stepSession; split <;> [split; skip] <;> simp
@[simp] theorem stepSession_sel (s : State) : (s.stepSession).sel = s.sel := by unfold stepSession; split <;> [split; skip] <;> simp
@[simp] theorem stepSession_upc (s : State) : (s.stepSession).upc = s.upc := by unfold stepSession; split <;> [split; skip] <;> simp
@[simp] theorem stepSession_v (s : State) : (s.stepSession).v = s.v := by unfold stepSession; split <;> [split; skip] <;> simp
@[simp] theorem stepSession_maj (s : State) : (s.stepSession).maj = s.maj := by unfold stepSession; split <;> [split; skip] <;> simp
@[simp] theorem stepSession_min (s : State) : (s.stepSession).min = s.min := by unfold stepSession; split <;> [split; skip] <;> simp
@[simp] theorem stepSession_b (s : State) : (s.stepSession).b = s.b := by unfold stepSession; split <;> [split; skip] <;> simp
@[simp] theorem stepSession_rate (s : State) : (s.stepSession).rate = s.rate := by unfold stepSession; split <;> [split; skip] <;> simp
@[simp] theorem stepSession_cnt (s : State) : (s.stepSession).cnt = s.cnt := by unfold stepSession; split <;> [split; skip] <;> simp
@[simp] theorem stepSession_paddr (s : State) : (s.stepSession).paddr = s.paddr := by unfold stepSession; split <;> [split; skip] <;> simp
@[simp] theorem stepSession_ch (s : State) : (s.stepSession).ch = s.ch := by unfold stepSession; split <;> [split; skip] <;> simp
@[simp] theorem stepSession_k (s : State) : (s.stepSession).k = s.k := by unfold stepSession; split <;> [split; skip] <;> simp
@[simp] theorem stepSession_src (s : State) : (s.stepSession).src = s.src := by unfold stepSession; split <;> [split; skip] <;> simp
@[simp] theorem stepSession_acc (s : State) : (s.stepSession).acc = s.acc := by unfold stepSession; split <;> [split; skip] <;> simp
@[simp] theorem stepSession_idx (s : State) : (s.stepSession).idx = s.idx := by unfold stepSession; split <;> [split; skip] <;> simp
@[simp] theorem stepSession_polls (s : State) : (s.stepSession).polls = s.polls := by unfold stepSession; split <;> [split; skip] <;> simp
@[simp] theorem stepSession_retries (s : State) : (s.stepSession).retries = s.retries := by unfold stepSession; split <;> [split; skip] <;> simp
@[simp] theorem stepSession_resp (s : State) : (s.stepSession).resp = s.resp := by unfold stepSession; split <;> [split; skip] <;> simp
@[simp] theorem stepSession_fault (s : State) : (s.stepSession).fault = s.fault := by unfold stepSession; split <;> [split; skip] <;> simp
@[simp] theorem stepSession_faultInfo (s : State) : (s.stepSession).faultInfo = s.faultInfo := by unfold stepSession; split <;> [split; skip] <;> simp
@[simp] theorem stepSession_offset (s : State) : (s.stepSession).offset = s.offset := by unfold stepSession; split <;> [split; skip] <;> simp
@[simp] theorem stepSession_triggers (s : State) : (s.stepSession).triggers = s.triggers := by unfold stepSession; split <;> [split; skip] <;> simp
@[simp] theorem stepSession_mem (s : State) : (s.stepSession).mem = s.mem := by unfold stepSession; split <;> [split; skip] <;> simp
@[simp] theorem stepSession_memReset (s : State) : (s.stepSession).memReset = s.memReset := by unfold stepSession; split <;> [split; skip] <;> simp
@[simp] theorem stepSession_channels (s : State) : (s.stepSession).channels = s.channels := by unfold stepSession; split <;> [split; skip] <;> simp
@[simp] theorem stepSession_ff (s : State) : (s.stepSession).ff = s.ff := by unfold stepSession; split <;> [split; skip] <;> simp
@[simp] theorem stepSession_lock (s : State) : (s.stepSession).lock = s.lock := by unfold stepSession; split <;> [split; skip] <;> simp
@[simp] theorem stepSession_trace (s : State) : (s.stepSession).trace = s.trace := by unfold stepSession; split <;> [split; skip] <;> simp
@[simp] theorem stepSession_turns (s : State) : (s.stepSession).turns = s.turns := by unfold stepSession; split <;> [split; skip] <;> simp
@[simp] theorem stepSession_draws (s : State) : (s.stepSession).draws = s.draws := by unfold stepSession; split <;> [split; skip] <;> simp
@[simp] theorem stepSession_tick (s : State) : (s.stepSession).tick = s.tick := by unfold stepSession; split <;> [split; skip] <;> simp

/-! ### `setDest` -/

@[simp] theorem setDest_cfg (s : State) (d : InDest) (x : Byte) : (s.setDest d x).cfg = s.cfg := by cases d <;> rfl
@[simp] theorem setDest_ucode (s : State) (d : InDest) (x : Byte) : (s.setDest d x).ucode = s.ucode := by cases d <;> rfl
@[simp] theorem setDest_seq (s : State) (d : InDest) (x : Byte) : (s.setDest d x).seq = s.seq := by cases d <;> rfl
@[simp] theorem setDest_sel (s : State) (d : InDest) (x : Byte) : (s.setDest d x).sel = s.sel := by cases d <;> rfl
@[simp] theorem setDest_upc (s : State) (d : InDest) (x : Byte) : (s.setDest d x).upc = s.upc := by cases d <;> rfl
@[simp] theorem setDest_b (s : State) (d : InDest) (x : Byte) : (s.setDest d x).b = s.b := by cases d <;> rfl
@[simp] theorem setDest_rate (s : State) (d : InDest) (x : Byte) : (s.setDest d x).rate = s.rate := by cases d <;> rfl
@[simp] theorem setDest_cnt (s : State) (d : InDest) (x : Byte) : (s.setDest d x).cnt = s.cnt := by cases d <;> rfl
@[simp] theorem setDest_paddr (s : State) (d : InDest) (x : Byte) : (s.setDest d x).paddr = s.paddr := by cases d <;> rfl
@[simp] theorem setDest_ch (s : State) (d : InDest) (x : Byte) : (s.setDest d x).ch = s.ch := by cases d <;> rfl
@[simp] theorem setDest_k (s : State) (d : InDest) (x : Byte) : (s.setDest d x).k = s.k := by cases d <;> rfl
@[simp] theorem setDest_src (s : State) (d : InDest) (x : Byte) : (s.setDest d x).src = s.src := by cases d <;> rfl
@[simp] theorem setDest_acc (s : State) (d : InDest) (x : Byte) : (s.setDest d x).acc = s.acc := by cases d <;> rfl
@[simp] theorem setDest_idx (s : State) (d : InDest) (x : Byte) : (s.setDest d x).idx = s.idx := by cases d <;> rfl
@[simp] theorem setDest_polls (s : State) (d : InDest) (x : Byte) : (s.setDest d x).polls = s.polls := by cases d <;> rfl
@[simp] theorem setDest_retries (s : State) (d : InDest) (x : Byte) : (s.setDest d x).retries = s.retries := by cases d <;> rfl
@[simp] theorem setDest_resp (s : State) (d : InDest) (x : Byte) : (s.setDest d x).resp = s.resp := by cases d <;> rfl
@[simp] theorem setDest_fault (s : State) (d : InDest) (x : Byte) : (s.setDest d x).fault = s.fault := by cases d <;> rfl
@[simp] theorem setDest_faultInfo (s : State) (d : InDest) (x : Byte) : (s.setDest d x).faultInfo = s.faultInfo := by cases d <;> rfl
@[simp] theorem setDest_offset (s : State) (d : InDest) (x : Byte) : (s.setDest d x).offset = s.offset := by cases d <;> rfl
@[simp] theorem setDest_triggers (s : State) (d : InDest) (x : Byte) : (s.setDest d x).triggers = s.triggers := by cases d <;> rfl
@[simp] theorem setDest_mem (s : State) (d : InDest) (x : Byte) : (s.setDest d x).mem = s.mem := by cases d <;> rfl
@[simp] theorem setDest_memReset (s : State) (d : InDest) (x : Byte) : (s.setDest d x).memReset = s.memReset := by cases d <;> rfl
@[simp] theorem setDest_dsp (s : State) (d : InDest) (x : Byte) : (s.setDest d x).dsp = s.dsp := by cases d <;> rfl
@[simp] theorem setDest_channels (s : State) (d : InDest) (x : Byte) : (s.setDest d x).channels = s.channels := by cases d <;> rfl
@[simp] theorem setDest_ff (s : State) (d : InDest) (x : Byte) : (s.setDest d x).ff = s.ff := by cases d <;> rfl
@[simp] theorem setDest_lock (s : State) (d : InDest) (x : Byte) : (s.setDest d x).lock = s.lock := by cases d <;> rfl
@[simp] theorem setDest_trace (s : State) (d : InDest) (x : Byte) : (s.setDest d x).trace = s.trace := by cases d <;> rfl
@[simp] theorem setDest_turns (s : State) (d : InDest) (x : Byte) : (s.setDest d x).turns = s.turns := by cases d <;> rfl
@[simp] theorem setDest_draws (s : State) (d : InDest) (x : Byte) : (s.setDest d x).draws = s.draws := by cases d <;> rfl
@[simp] theorem setDest_tick (s : State) (d : InDest) (x : Byte) : (s.setDest d x).tick = s.tick := by cases d <;> rfl

end State

end Sys2Proof.Machine
end

