-- ==== Sys2Proof/Laws/Microcode.lean ====
section
/-! SUPPORT. What the sequencer of a built block fetches: the listing's entry at (`SEL`, `UPC`). -/

namespace Sys2Proof.Machine

namespace Microcode

/-- A placed listing is found entry by entry, from its first index on. -/
theorem lookup_place (sel : Byte) (m : Store) (us : List Instr) (k n : Nat) :
    (place sel k us ++ m).lookup (sel, k + n) =
      match us[n]? with
      | some u => some (encode u)
      | none => m.lookup (sel, k + n) := by
  induction us generalizing k n with
  | nil => simp [place]
  | cons u us ih =>
    cases n with
    | zero => simp [place]
    | succ n =>
      have h := ih (k + 1) n
      rw [Nat.add_right_comm, Nat.add_assoc] at h
      simp only [place, List.cons_append, List.lookup_cons, List.getElem?_cons_succ]
      have hne : ((sel, k + (n + 1)) == (sel, k)) = false := by simp
      rw [hne]
      exact h

/-- A listing placed at another selector is passed over. -/
theorem lookup_place_other {sel sel' : Byte} (h : sel' ≠ sel) (m : Store) (us : List Instr) (k n : Nat) :
    (place sel k us ++ m).lookup (sel', n) = m.lookup (sel', n) := by
  induction us generalizing k with
  | nil => simp [place]
  | cons u us ih =>
    have hne : ((sel', n) == (sel, k)) = false := by simp [h]
    simp only [place, List.cons_append, List.lookup_cons, hne]
    exact ih (k + 1)

theorem lookup_flatMap_place (c : Config) (sels : List Byte) (sel : Byte) (n : Nat) :
    (sels.flatMap fun x => place x 0 (listing c x)).lookup (sel, n) =
      if sel ∈ sels then ((listing c sel)[n]?).map encode else none := by
  induction sels with
  | nil => simp
  | cons x xs ih =>
    rw [List.flatMap_cons]
    by_cases e : sel = x
    · subst e
      have h := lookup_place sel (xs.flatMap fun x => place x 0 (listing c x)) (listing c sel) 0 n
      rw [Nat.zero_add] at h
      rw [h, ih]
      cases hu : (listing c sel)[n]? <;> simp
    · rw [lookup_place_other e, ih]
      simp [e]

/-- A reserved selector has no listing. -/
theorem listing_reserved (c : Config) {sel : Byte} (h : sel ∉ selectors) : listing c sel = [] := by
  unfold listing
  split <;> try rfl
  all_goals
    exfalso
    apply h
    rename_i hs
    have : sel = BitVec.ofNat 8 sel.toNat := by simp
    rw [this, hs]
    decide

/-- The built store holds, at a selector and an index, the words of the listing's entry there (R135). -/
theorem rom_at (c : Config) (sel : Byte) (n : Nat) : (rom c).at sel n = ((listing c sel)[n]?).map encode := by
  unfold Store.at rom
  rw [lookup_flatMap_place]
  split
  · rfl
  · rename_i h
    simp [listing_reserved c h]

/-- A list of micro-operations is read back from its words, entry by entry. -/
def ReadBack (us : List Instr) : Prop := ∀ u ∈ us, decodeMicro (encode u) = .ok u

theorem ReadBack.append {us vs : List Instr} (h : ReadBack us) (h' : ReadBack vs) : ReadBack (us ++ vs) :=
  fun u hu => (List.mem_append.mp hu).elim (h u) (h' u)

theorem ReadBack.cons {u : Instr} {us : List Instr} (h : decodeMicro (encode u) = .ok u) (h' : ReadBack us) :
    ReadBack (u :: us) := fun v hv => by
  rcases List.mem_cons.mp hv with rfl | hv
  · exact h
  · exact h' v hv

theorem readBack_nil : ReadBack [] := fun u hu => by cases hu

theorem readBack_program : ReadBack programBody := by unfold ReadBack; decide

theorem readBack_configure : ReadBack configureBody := by unfold ReadBack; decide

theorem readBack_trigger : ReadBack triggerBody :=
  .append (.append (by unfold ReadBack; decide) readBack_configure) readBack_program

/-- Every entry of every listing is read back from its words. -/
theorem decodeMicro_listing (c : Config) (sel : Byte) : ReadBack (listing c sel) := by
  unfold listing
  split
  · exact .append (.append (.cons rfl (.cons rfl (.cons rfl readBack_nil))) (by unfold ReadBack; decide))
      (by unfold ReadBack; decide)
  · unfold ReadBack; decide
  · exact .append (.append (by unfold ReadBack; decide) readBack_program) (by unfold ReadBack; decide)
  · unfold ReadBack; decide
  · unfold ReadBack; decide
  · exact .append (.append (by unfold ReadBack; decide) readBack_configure) (by unfold ReadBack; decide)
  · exact .append readBack_trigger (by unfold ReadBack; decide)
  · exact .append (.append (by unfold ReadBack; decide) readBack_trigger) (by unfold ReadBack; decide)
  · exact readBack_nil

end Microcode

/-- The sequencer of a block with the built microcode fetches the listing's entry at (`SEL`, `UPC`) (R135). -/
theorem State.fetchInstr_built {s : State} (h : s.ucode = Microcode.rom s.cfg) :
    s.fetchInstr = (Microcode.listing s.cfg s.sel)[s.upc]? := by
  unfold fetchInstr fetch
  rw [h, Microcode.rom_at]
  cases hu : (Microcode.listing s.cfg s.sel)[s.upc]? with
  | none => rfl
  | some u =>
    have := Microcode.decodeMicro_listing s.cfg s.sel u (List.mem_of_getElem? hu)
    simp [this]

end Sys2Proof.Machine
end

