-- ==== Sys2Proof/Laws/Steps.lean ====
section
/-! SUPPORT. What a step can do, said once: if a shared operation, an agent's turn or the machine answers `next t`, then
`t` is one of the states listed here. Proofs about every step cite these and unfold nothing. -/

namespace Sys2Proof

/-! ### The level of a decoded instruction -/

/-- What decodes as a request is one. -/
theorem level_of_decodeRequest {ws : List Nat} {i : Instr} (h : decodeRequest ws = .ok i) : i.level = .request := by
  cases ws with
  | nil => cases h
  | cons w ws =>
    simp only [decodeRequest] at h
    split at h
    case h_9 => split at h <;> cases h
    all_goals
      simp only [orBadOperands] at h
      split at h
      case h_2 => cases h
      rename_i i' hi
      cases h
      simp only [noOperands, programOutputOperands, writeByteOperands, configureOperands, startOperands,
        submitOperands] at hi
    all_goals
      repeat' split at hi
      all_goals first
        | (cases hi <;> rfl)
        | (simp only [Option.map_eq_some_iff] at hi; obtain ⟨_, _, rfl⟩ := hi; rfl)

/-- What decodes as a micro-operation is one. -/
theorem level_of_decodeMicro {ws : List Nat} {i : Instr} (h : decodeMicro ws = .ok i) : i.level = .micro := by
  cases ws with
  | nil => cases h
  | cons w ws =>
    simp only [decodeMicro] at h
    split at h
    case h_25 => split at h <;> cases h
    all_goals
      simp only [orBadOperands] at h
      split at h
      case h_2 => cases h
      rename_i i' hi
      cases h
      simp only [noOperands, outFields, inFields, delayFields, endFields, bneFields, logFields, modeFields,
        bltFields] at hi
    all_goals
      repeat' split at hi
      all_goals first
        | (cases hi <;> rfl)
        | (simp only [Option.map_eq_some_iff] at hi; obtain ⟨_, _, rfl⟩ := hi; rfl)

/-- A request's code is one of the selectors of R110. -/
theorem code_mem_selectors {i : Instr} (h : i.level = .request) : i.code ∈ Machine.Microcode.selectors := by
  cases i <;> first | (cases h; done) | simp [Instr.code, Machine.Microcode.selectors]

namespace Machine

namespace State

/-! ### Channels, sessions, transfers -/

theorem toNat_lt_of_channel? {s : State} {ch : ChanNo} {c : Channel} (h : s.channel? ch = some c) : ch.toNat < 4 := by
  have := channel?_isSome s ch
  simpa [h] using this.symm

theorem channel?_setChannel_same (s : State) {ch : ChanNo} (c : Channel) (h : ch.toNat < 4) :
    (s.setChannel ch c).channel? ch = some c := by
  simp [channel?, setChannel, h]

theorem channel?_setChannel_other (s : State) {ch h : ChanNo} (c : Channel) (hn : h ≠ ch) :
    (s.setChannel ch c).channel? h = s.channel? h := by
  have : ¬ ch.toNat = h.toNat := fun he => hn (BitVec.eq_of_toNat_eq he.symm)
  simp [channel?, setChannel, this]

/-- A channel is a function of the channel registers alone. -/
theorem channel?_congr {s t : State} (h : t.channels = s.channels) (ch : ChanNo) : t.channel? ch = s.channel? ch := by
  unfold channel?
  rw [h]

/-- Taking a sample changes the session and nothing else. -/
theorem stepSession_frame (s : State) :
    s.stepSession = { s with dsp := { s.dsp with sess := s.stepSession.dsp.sess } } := by
  unfold stepSession
  repeat' split
  all_goals rfl

/-- A session with samples left takes one (R277). -/
theorem stepSession_active {s : State} {z : Session} (h : s.dsp.sess = some z) (h' : z.done < z.len) :
    s.stepSession = { s with dsp := { s.dsp with
      sess := if z.done + 1 = z.len then none else some { z with done := z.done + 1 } } } := by
  simp [stepSession, h, h', setDsp, Session.next]

/-- The state after a channel has delivered the byte at an address of physical memory (R275). -/
def delivered (s : State) (ch : ChanNo) (r : Channel) : State :=
  (((s.memRead (r.addr + r.xfer)).2.emit (.xfer ch (r.addr + r.xfer) (s.memRead (r.addr + r.xfer)).1)).setChannel ch
    r.moved).stepSession

theorem deliver_next {s : State} {ch : ChanNo} {r : Channel} (h : r.addr + r.xfer < 2 ^ s.cfg.paddrWidth) :
    s.deliver ch r = .next (s.delivered ch r) := by
  simp [deliver, delivered, inMemory, h]

/-- A delivery changes the channel, the session, the trace, the draws and what is known of the reset contents, and
nothing else. -/
theorem delivered_frame (s : State) (ch : ChanNo) (r : Channel) :
    s.delivered ch r = { s with
      channels := (s.setChannel ch r.moved).channels
      dsp := { s.dsp with sess := (s.delivered ch r).dsp.sess }
      trace := s.trace ++ [.xfer ch (r.addr + r.xfer) (s.memRead (r.addr + r.xfer)).1]
      memReset := (s.memRead (r.addr + r.xfer)).2.memReset
      draws := (s.memRead (r.addr + r.xfer)).2.draws, tick := (s.memRead (r.addr + r.xfer)).2.tick } := by
  unfold delivered
  rw [stepSession_frame, memRead_frame]
  rfl

/-- What memory holds after a delivery is what it holds after the read. -/
theorem byteAt_delivered (s : State) (ch : ChanNo) (r : Channel) (a : Nat) :
    (s.delivered ch r).byteAt a = (s.memRead (r.addr + r.xfer)).2.byteAt a :=
  byteAt_congr (by simp [delivered]) (by simp [delivered]) a

/-! ### The guards of the channel micro-operations -/

theorem underLock_next {s t : State} {f : State → Result} (h : s.underLock f = .next t) :
    (s.lock = .seq ∧ f s = .next t) ∨ (s.lock ≠ .seq ∧ t = s.raise .lockState (.lock s.lock)) := by
  unfold underLock at h
  split at h
  · exact .inl ⟨‹_›, h⟩
  · cases h
    exact .inr ⟨‹_›, rfl⟩

theorem withClearedFf_next {s t : State} {f : State → Result} (h : s.withClearedFf f = .next t) :
    (s.ff = .cleared ∧ f s = .next t) ∨ (s.ff ≠ .cleared ∧ t = s.raise .flipFlopNotCleared (.channel s.ch)) := by
  unfold withClearedFf at h
  split at h
  · exact .inl ⟨‹_›, h⟩
  · cases h
    exact .inr ⟨‹_›, rfl⟩

theorem updateChannel_next {s t : State} {g : Channel → Channel} {f : State → Result}
    (h : s.updateChannel g f = .next t) :
    ∃ c, s.channel? s.ch = some c ∧ f (s.setChannel s.ch (g c)) = .next t := by
  unfold updateChannel at h
  split at h
  · exact ⟨_, ‹_›, h⟩
  · cases h

/-! ### The other agents -/

/-- What a transfer step can do: nothing, or a delivery of a channel armed in single-cycle memory-to-device mode from
physical memory (R47, R274, R275). -/
theorem dspTransfer_next {s t : State} (h : s.dspTransfer = .next t) :
    t = s ∨ ∃ r, s.channel? s.cfg.dmaCh = some r ∧ r.armed = true ∧ s.mayRequest = true ∧
      r.mode = .singleM2D ∧ r.addr + r.xfer < 2 ^ s.cfg.paddrWidth ∧ t = s.delivered s.cfg.dmaCh r := by
  simp only [dspTransfer] at h
  split at h
  · cases h
  · rename_i r hr
    split at h
    · rename_i hh
      simp only [Bool.and_eq_true] at hh
      split at h
      · by_cases hm : r.addr + r.xfer < 2 ^ s.cfg.paddrWidth
        · rw [deliver_next hm] at h
          cases h
          exact .inr ⟨r, hr, hh.2, hh.1, ‹_›, hm, rfl⟩
        · simp [deliver, inMemory, hm] at h
      · cases h
    · cases h
      exact .inl rfl

/-- A transfer turn that is not enabled passes (R275; notes/assumptions/8.md). -/
theorem dspTransfer_passes {s : State} {r : Channel} (hr : s.channel? s.cfg.dmaCh = some r)
    (h : s.mayRequest = false ∨ r.armed = false) : s.dspTransfer = .next s := by
  rcases h with h | h <;> simp [dspTransfer, hr, h]

/-- What a starved sample can do: nothing, or an event and one sample of a READY DSP's session, where channel `DMA_CH`
is not armed (R276). -/
theorem dspStarve_next {s t : State} (h : s.dspStarve = .next t) :
    t = s ∨ ((s.dsp.st = .ready ∧ s.sessionActive = true ∧
      ∃ r, s.channel? s.cfg.dmaCh = some r ∧ r.armed = false) ∧ t = (s.emit .underrun).stepSession) := by
  simp only [dspStarve] at h
  split at h
  · cases h
  · rename_i r hr
    split at h
    · rename_i hh
      cases h
      exact .inr ⟨⟨hh.1, hh.2.1, r, hr, hh.2.2⟩, rfl⟩
    · cases h
      exact .inl rfl

/-- A step of the DSP's own changes the DSP, the channels, the trace, the draws and what is known of the reset contents,
and nothing of the block (R260). -/
theorem dspMove_frame {s t : State} {m : DspMove} (h : s.dspMove m = .next t) :
    t = { s with
      dsp := t.dsp, channels := t.channels, trace := t.trace, memReset := t.memReset, draws := t.draws
      tick := t.tick } := by
  cases m
  case transfer =>
    rcases dspTransfer_next h with rfl | ⟨r, _, _, _, _, _, rfl⟩
    · rfl
    · rw [delivered_frame]
  case starve =>
    rcases dspStarve_next h with rfl | ⟨_, rfl⟩
    · rfl
    · rw [stepSession_frame]
      rfl
  all_goals
    simp only [dspMove, Host.Outcome.next.injEq] at h
    subst h
    repeat' split
    all_goals rfl

/-- A step of the DSP's own leaves every byte memory holds (R72, R87). -/
theorem dspMove_held {s t : State} {m : DspMove} (h : s.dspMove m = .next t) {a : Nat} {x : Byte}
    (hb : s.byteAt a = some x) : t.byteAt a = some x := by
  cases m
  case transfer =>
    rcases dspTransfer_next h with rfl | ⟨r, _, _, _, _, _, rfl⟩
    · exact hb
    · rw [byteAt_delivered]
      exact byteAt_memRead_held hb
  case starve =>
    rcases dspStarve_next h with rfl | ⟨_, rfl⟩
    · exact hb
    · rw [stepSession_frame]
      exact hb
  all_goals
    simp only [dspMove, Host.Outcome.next.injEq] at h
    subst h
    repeat' split
    all_goals exact hb

/-- What another DMA user can do (R282). -/
theorem userMove_cases (s : State) (m : UserMove) :
    s.userMove m = s ∨
    (m = .acquire ∧ s.lock = .free ∧ s.userMove m = { s with lock := .other }) ∨
    (m = .release ∧ s.lock = .other ∧ s.userMove m = { s with lock := .free }) ∨
    (∃ ff ch c, m = .configure ff ch c ∧ s.lock = .other ∧ ch ≠ s.cfg.dmaCh ∧ c.typed s.cfg = true ∧
      s.userMove m = { s with ff := ff }.setChannel ch c) := by
  cases m <;> simp only [userMove] <;> split <;> simp_all

theorem userMove_frame (s : State) (m : UserMove) :
    s.userMove m = { s with
      lock := (s.userMove m).lock, ff := (s.userMove m).ff, channels := (s.userMove m).channels } := by
  rcases userMove_cases s m with e | ⟨_, _, e⟩ | ⟨_, _, e⟩ | ⟨_, _, _, _, _, _, _, e⟩ <;> rw [e]
  rfl

end State

/-! ### Micro-operations -/

/-- What a micro-operation does when it answers a next state: one constructor per way its rule ends (R136, R137). -/
inductive MicroStep (s : State) : Instr → State → Prop
  | out (r : OutReg) (src : ByteSource) :
    MicroStep s (.out r src)
      ((s.portWrite r (s.byteSource src)).emit (.pw (outRegister r) (s.byteSource src))).advance
  | inp (d : InDest) :
    MicroStep s (.inp d) ((s.readRdata.2.setDest d s.readRdata.1).emit (.pr .rdata s.readRdata.1)).advance
  | pollWrDone : busyFlag s.readWstatus.1 = false →
    MicroStep s .pollWr (s.readWstatus.2.emit (.pr .wstatus s.readWstatus.1)).advance
  | pollWrHold :
    MicroStep s .pollWr { s.readWstatus.2.emit (.pr .wstatus s.readWstatus.1) with polls := s.polls + 1 }
  | pollWrFault (d : FaultDetail) :
    MicroStep s .pollWr
      (({ s.readWstatus.2.emit (.pr .wstatus s.readWstatus.1) with polls := s.polls + 1 } : State).raise
        .deviceNotResponding d)
  | pollRdDone : availFlag s.readRstatus.1 = true →
    MicroStep s .pollRd (s.readRstatus.2.emit (.pr .rstatus s.readRstatus.1)).advance
  | pollRdHold :
    MicroStep s .pollRd { s.readRstatus.2.emit (.pr .rstatus s.readRstatus.1) with polls := s.polls + 1 }
  | pollRdFault (d : FaultDetail) :
    MicroStep s .pollRd
      (({ s.readRstatus.2.emit (.pr .rstatus s.readRstatus.1) with polls := s.polls + 1 } : State).raise
        .deviceNotResponding d)
  | delay (d : Nat) : MicroStep s (.delay d) ((s.dspDelay d).emit (.dly d)).advance
  | endOp (src : EndSource) : MicroStep s (.endOp src) (s.finish (s.endResponse src))
  | bneEqual (imm : Byte) (n : Nat) : MicroStep s (.bneV imm n) s.advance
  | bneRetry (imm : Byte) (n : Nat) :
    MicroStep s (.bneV imm n) (({ s with retries := s.retries + 1 } : State).branch n)
  | bneFault (imm : Byte) (n : Nat) (d : FaultDetail) :
    MicroStep s (.bneV imm n) (({ s with retries := s.retries + 1 } : State).raise .deviceNotResponding d)
  | chkCntPass : MicroStep s .chkCnt s.advance
  | chkCntFault (d : FaultDetail) : MicroStep s .chkCnt (s.raise .transferCountRange d)
  | logVersion : MicroStep s (.log .version) (s.emit (.logVersion s.maj s.min)).advance
  | logIntent :
    MicroStep s (.log .intent)
      (({ s with triggers := s.triggers + 1 } : State).emit (.logIntent s.paddr s.cnt s.rate)).advance
  | chkDmaPass : regionBad s.cfg s.ch s.paddr s.cnt.toNat = false → MicroStep s .chkDma s.advance
  | chkDmaFault (d : FaultDetail) : MicroStep s .chkDma (s.raise .dmaRange d)
  | lockTaken : s.lock = .free →
    MicroStep s .dmaLock (({ s with lock := .seq } : State).emit (.dma .lock)).advance
  | lockHold : s.lock = .other → MicroStep s .dmaLock s
  | lockTwice (d : FaultDetail) : s.lock = .seq → MicroStep s .dmaLock (s.raise .lockState d)
  | notLocked (i : Instr) (d : FaultDetail) : s.lock ≠ .seq → State.underLockOp (some i) = true →
    MicroStep s i (s.raise .lockState d)
  | notCleared (i : Instr) (d : FaultDetail) : s.lock = .seq → s.ff ≠ .cleared → i = .dmaSetAddr ∨ i = .dmaSetCount →
    MicroStep s i (s.raise .flipFlopNotCleared d)
  | unlock : s.lock = .seq →
    MicroStep s .dmaUnlock (({ s with lock := .free } : State).emit (.dma .unlock)).advance
  | clearFf : s.lock = .seq →
    MicroStep s .dmaClearFf (({ s with ff := .cleared } : State).emit (.dma (.clrff s.ch))).advance
  | disable (c : Channel) : s.lock = .seq → s.channel? s.ch = some c →
    MicroStep s .dmaDisable ((s.setChannel s.ch { c with mask := true }).emit (.dma (.disable s.ch))).advance
  | setMode (c : Channel) : s.lock = .seq → s.channel? s.ch = some c →
    MicroStep s .dmaSetMode
      ((s.setChannel s.ch { c with mode := .singleM2D }).emit (.dma (.mode s.ch .singleM2D))).advance
  | enable (c : Channel) : s.lock = .seq → s.channel? s.ch = some c →
    MicroStep s .dmaEnable ((s.setChannel s.ch { c with mask := false }).emit (.dma (.enable s.ch))).advance
  | setAddr (c : Channel) : s.lock = .seq → s.ff = .cleared → s.channel? s.ch = some c →
    MicroStep s .dmaSetAddr
      (({ s.setChannel s.ch { c with addr := s.paddr, xfer := 0 } with ff := .cleared } : State).emit
        (.dma (.addr s.ch s.paddr))).advance
  | setCount (c : Channel) : s.lock = .seq → s.ff = .cleared → s.channel? s.ch = some c →
    MicroStep s .dmaSetCount
      (({ s.setChannel s.ch { c with count := s.cnt.toNat, xfer := 0 } with ff := .cleared } : State).emit
        (.dma (.count s.ch s.cnt))).advance
  | chkSpaceFull : s.cfg.cap ≤ s.offset → MicroStep s .chkSpace (s.finish .outOfSpace)
  | chkSpacePass : s.offset < s.cfg.cap →
    MicroStep s .chkSpace ({ s with acc := Nat.min s.k (s.cfg.cap - s.offset), idx := 0 } : State).advance
  | copyLast (x : Byte) : s.idx < s.acc → s.src[s.idx]? = some x → copyAddress s < 2 ^ s.cfg.paddrWidth →
      s.idx + 1 = s.acc →
    MicroStep s .copy
      ({ (s.memWrite (copyAddress s) x).emit (.bufw (s.offset + s.idx) x) with idx := s.idx + 1 } : State).advance
  | copyHold (x : Byte) : s.idx < s.acc → s.src[s.idx]? = some x → copyAddress s < 2 ^ s.cfg.paddrWidth →
    MicroStep s .copy
      { (s.memWrite (copyAddress s) x).emit (.bufw (s.offset + s.idx) x) with idx := s.idx + 1 }
  | copyNone : s.acc ≤ s.idx → MicroStep s .copy s.advance
  | adv : MicroStep s .adv ({ s with offset := s.offset + s.acc } : State).advance
  | bltBranch (n : Nat) : s.offset < s.cfg.cap → MicroStep s (.bltFull n) (s.branch n)
  | bltFull (n : Nat) : s.cfg.cap ≤ s.offset → MicroStep s (.bltFull n) s.advance
  | loadTrig :
    MicroStep s .loadTrig
      ({ s with
        paddr := s.cfg.bufPaddr, cnt := BitVec.ofNat 17 s.cfg.cap, rate := s.cfg.sampleRate
        ch := s.cfg.dmaCh } : State).advance
  | ofsClr : MicroStep s .ofsClr ({ s with offset := 0 } : State).advance

/-- Every next state of a micro-operation is one of `MicroStep`'s. -/
theorem exec_micro_next {i : Instr} {s t : State} (hl : i.level = .micro) (h : exec i s = .next t) :
    MicroStep s i t := by
  cases i <;> first | (cases hl; done) | skip
  all_goals simp only [exec] at h
  case copy =>
    simp only [execCopy] at h
    split at h
    · rename_i h1
      split at h
      · cases h
      · rename_i x hx
        split at h
        · rename_i h2
          simp only [State.inMemory, decide_eq_true_eq] at h2
          cases h
          split
          · exact .copyLast x h1 hx h2 ‹_›
          · exact .copyHold x h1 hx h2
        · cases h
    · cases h
      exact .copyNone (by omega)
  case dmaUnlock =>
    rcases State.underLock_next h with ⟨hk, h⟩ | ⟨hk, rfl⟩
    · cases h
      exact .unlock hk
    · exact .notLocked _ _ hk rfl
  case dmaClearFf =>
    rcases State.underLock_next h with ⟨hk, h⟩ | ⟨hk, rfl⟩
    · cases h
      exact .clearFf hk
    · exact .notLocked _ _ hk rfl
  case dmaDisable =>
    rcases State.underLock_next h with ⟨hk, h⟩ | ⟨hk, rfl⟩
    · obtain ⟨c, hc, h⟩ := State.updateChannel_next h
      cases h
      exact .disable c hk hc
    · exact .notLocked _ _ hk rfl
  case dmaSetMode =>
    rcases State.underLock_next h with ⟨hk, h⟩ | ⟨hk, rfl⟩
    · obtain ⟨c, hc, h⟩ := State.updateChannel_next h
      cases h
      exact .setMode c hk hc
    · exact .notLocked _ _ hk rfl
  case dmaEnable =>
    rcases State.underLock_next h with ⟨hk, h⟩ | ⟨hk, rfl⟩
    · obtain ⟨c, hc, h⟩ := State.updateChannel_next h
      cases h
      exact .enable c hk hc
    · exact .notLocked _ _ hk rfl
  case dmaSetAddr =>
    rcases State.underLock_next h with ⟨hk, h⟩ | ⟨hk, rfl⟩
    · rcases State.withClearedFf_next h with ⟨hf, h⟩ | ⟨hf, rfl⟩
      · obtain ⟨c, hc, h⟩ := State.updateChannel_next h
        cases h
        exact .setAddr c hk hf hc
      · exact .notCleared _ _ hk hf (.inl rfl)
    · exact .notLocked _ _ hk rfl
  case dmaSetCount =>
    rcases State.underLock_next h with ⟨hk, h⟩ | ⟨hk, rfl⟩
    · rcases State.withClearedFf_next h with ⟨hf, h⟩ | ⟨hf, rfl⟩
      · obtain ⟨c, hc, h⟩ := State.updateChannel_next h
        cases h
        exact .setCount c hk hf hc
      · exact .notCleared _ _ hk hf (.inr rfl)
    · exact .notLocked _ _ hk rfl
  case out =>
    cases h
    exact .out _ _
  case inp =>
    cases h
    exact .inp _
  case pollWr =>
    cases h
    simp only [State.poll]
    have e : (s.readWstatus.2.emit (.pr .wstatus s.readWstatus.1)).polls = s.polls := by simp
    split
    · rename_i hh
      exact .pollWrDone (by simpa using hh)
    · split
      · rw [e]
        exact .pollWrFault _
      · rw [e]
        exact .pollWrHold
  case pollRd =>
    cases h
    simp only [State.poll]
    have e : (s.readRstatus.2.emit (.pr .rstatus s.readRstatus.1)).polls = s.polls := by simp
    split
    · rename_i hh
      exact .pollRdDone hh
    · split
      · rw [e]
        exact .pollRdFault _
      · rw [e]
        exact .pollRdHold
  case delay =>
    cases h
    exact .delay _
  case endOp =>
    cases h
    exact .endOp _
  case bneV =>
    simp only [execBneV, Host.Outcome.next.injEq] at h
    subst h
    split
    · exact .bneEqual _ _
    · split
      · exact .bneFault _ _ _
      · exact .bneRetry _ _
  case chkCnt =>
    simp only [execChkCnt, Host.Outcome.next.injEq] at h
    subst h
    split
    · exact .chkCntFault _
    · exact .chkCntPass
  case log k =>
    cases h
    cases k
    · exact .logVersion
    · exact .logIntent
  case chkDma =>
    simp only [execChkDma, Host.Outcome.next.injEq] at h
    subst h
    split
    · exact .chkDmaFault _
    · rename_i hh
      exact .chkDmaPass (Bool.eq_false_iff.mpr hh)
  case dmaLock =>
    simp only [execDmaLock, Host.Outcome.next.injEq] at h
    subst h
    split
    · exact .lockTaken ‹_›
    · exact .lockHold ‹_›
    · exact .lockTwice _ ‹_›
  case chkSpace =>
    simp only [execChkSpace, Host.Outcome.next.injEq] at h
    subst h
    split
    · exact .chkSpaceFull ‹_›
    · exact .chkSpacePass (by omega)
  case adv =>
    cases h
    exact .adv
  case bltFull =>
    simp only [execBltFull, Host.Outcome.next.injEq] at h
    subst h
    split
    · exact .bltBranch _ ‹_›
    · exact .bltFull _ (by omega)
  case loadTrig =>
    cases h
    exact .loadTrig
  case ofsClr =>
    cases h
    exact .ofsClr

/-- Where control goes after a micro-operation that ran while BUSY (R137): halted, ended, held, advanced or branched. -/
theorem MicroStep.control {i : Instr} {s t : State} (h : MicroStep s i t) (hb : s.seq = .busy) :
    t.cfg = s.cfg ∧ t.ucode = s.ucode ∧ t.sel = s.sel ∧
    (t.seq = .halted
      ∨ (t.seq = .idle ∧ ((∃ src, i = .endOp src) ∨ i = .chkSpace ∧ s.cfg.cap ≤ s.offset))
      ∨ (t.seq = .busy ∧ t.upc = s.upc ∧ (i = .pollWr ∨ i = .pollRd ∨ i = .dmaLock ∧ t.lock = s.lock ∨ i = .copy))
      ∨ (t.seq = .busy ∧ t.upc = s.upc + 1 ∧ ∀ src, i ≠ .endOp src)
      ∨ (t.seq = .busy ∧ ∃ imm, i = .bneV imm t.upc) ∨ (t.seq = .busy ∧ i = .bltFull t.upc)) := by
  cases h <;> simp_all

/-! ### Requests -/

/-- What presenting a listed request can do (R131, R132, R134). -/
theorem exec_request_next {i : Instr} {s t : State} (hl : i.level = .request) (h : exec i s = .next t) :
    (s.seq = .idle ∧
      (i.wf s.cfg = true → t.paddr = s.paddr ∨ t.paddr < 2 ^ s.cfg.paddrWidth) ∧
      (i.wf s.cfg = true → i.code = 0x08 → t.src.length = t.k) ∧
      ∃ ops, t = { s with
        rate := t.rate, cnt := t.cnt, b := t.b, ch := t.ch, paddr := t.paddr, k := t.k, src := t.src
        sel := i.code, upc := 0, polls := 0, retries := 0, resp := .none, seq := .busy
        trace := s.trace ++ [.req i.code ops] }) ∨
    (s.seq = .busy ∧ t = s.raise .concurrentRequest (.selector i.code)) ∨ (s.seq = .halted ∧ t = s) := by
  cases hs : s.seq
  · left
    cases i <;> first | (cases hl; done) | skip
    all_goals
      simp only [exec, execDspReset, execDspQueryVersion, execDspProgramOutput, execDspReadByte, execDspWriteByte,
        execDmaConfigure, execStartPlayback, execSubmit, State.present_idle hs] at h
      cases h
      refine ⟨rfl, ?_, ?_, _, rfl⟩
      · intro hw
        simp only [Instr.wf, decide_eq_true_eq] at hw
        first | exact .inl rfl | exact .inr hw
      · intro hw hc
        first | (simp [Instr.code] at hc; done) | (simp [Instr.wf] at hw; exact hw)
  · right
    left
    refine ⟨rfl, ?_⟩
    cases i <;> first | (cases hl; done) | skip
    all_goals
      simp only [exec, execDspReset, execDspQueryVersion, execDspProgramOutput, execDspReadByte, execDspWriteByte,
        execDmaConfigure, execStartPlayback, execSubmit, State.present_busy hs] at h
      cases h
      rfl
  · right
    right
    refine ⟨rfl, ?_⟩
    cases i <;> first | (cases hl; done) | skip
    all_goals
      simp only [exec, execDspReset, execDspQueryVersion, execDspProgramOutput, execDspReadByte, execDspWriteByte,
        execDmaConfigure, execStartPlayback, execSubmit, State.present_halted hs] at h
      cases h
      rfl

/-! ### Turns and steps -/

/-- What a turn can do to the state it is taken in: one constructor per kind of step (R20). -/
inductive TurnStep (s : State) : State → Prop
  /-- nothing: no step of that agent is enabled -/
  | idle : TurnStep s s
  /-- the sequencer runs a micro-operation (R135) -/
  | micro (i : Instr) (t : State) : s.seq = .busy → i.level = .micro → s.fetchInstr = some i → MicroStep s i t →
    TurnStep s t
  /-- the host's request is accepted (R131) -/
  | accepted (sel : Byte) (ops : List Nat) (t : State) : s.seq = .idle → sel ∈ Microcode.selectors →
    (t.paddr = s.paddr ∨ t.paddr < 2 ^ s.cfg.paddrWidth) → (sel = 0x08 → t.src.length = t.k) →
    t = { s with
      rate := t.rate, cnt := t.cnt, b := t.b, ch := t.ch, paddr := t.paddr, k := t.k, src := t.src
      sel := sel, upc := 0, polls := 0, retries := 0, resp := .none, seq := .busy
      trace := s.trace ++ [.req sel ops] } → TurnStep s t
  /-- the host presents a request while BUSY (R132) -/
  | concurrent (d : FaultDetail) : s.seq = .busy → TurnStep s (s.raise .concurrentRequest d)
  /-- the host presents a reserved selector while IDLE (R133) -/
  | reserved (d : FaultDetail) : s.seq = .idle → TurnStep s (s.raiseIdle .badRequest d)
  /-- the DSP steps (R260) -/
  | dsp (m : DspMove) (t : State) : s.dspMove m = .next t → TurnStep s t
  /-- another DMA user steps (R282) -/
  | user (m : UserMove) : TurnStep s (s.userMove m)

theorem sequencerTurn_next {s t : State} (h : s.sequencerTurn = .next t) : TurnStep s t := by
  unfold State.sequencerTurn at h
  split at h
  · rename_i hb
    split at h
    · rename_i i hi
      have hl : i.level = .micro := by
        unfold State.fetchInstr at hi
        split at hi
        · split at hi
          · rename_i hd
            cases hi
            exact level_of_decodeMicro hd
          · cases hi
        · cases hi
      exact .micro i t hb hl hi (exec_micro_next hl h)
    · cases h
  · cases h
    exact .idle

theorem hostTurn_next {s t : State} {ws : List Nat} (h : s.hostTurn ws = .next t) : TurnStep s t := by
  unfold State.hostTurn at h
  split at h
  · rename_i i hd
    split at h
    · rename_i hw
      have hl := level_of_decodeRequest hd
      rcases exec_request_next hl h with ⟨hi, h1, h2, ops, h3⟩ | ⟨hi, rfl⟩ | ⟨hi, rfl⟩
      · exact .accepted i.code ops t hi (code_mem_selectors hl) (h1 hw) (h2 hw) h3
      · exact .concurrent _ hi
      · exact .idle
    · cases h
      exact .idle
  · cases h
    unfold State.presentReserved
    cases hs : s.seq
    · exact .reserved _ hs
    · exact .concurrent _ hs
    · exact .idle
  · cases h
    exact .idle

/-- Every step of the machine is a turn taken from the interleaving, then one of `TurnStep`'s. -/
theorem step_next {s t : State} (h : step s = .next t) :
    ∃ u : State, u = { s with turns := u.turns, tick := u.tick } ∧ TurnStep u t := by
  refine ⟨s.takeTurn.2, State.takeTurn_frame s, ?_⟩
  unfold step at h
  cases ht : s.takeTurn.1 <;> simp only [ht, State.runTurn] at h
  · exact sequencerTurn_next h
  · exact hostTurn_next h
  · exact .dsp _ t h
  · cases h
    exact .user _

/-- A run of at least one step whose step answers a next state goes on from it. -/
theorem run_succ {s t : State} (h : step s = .next t) (n : Nat) :
    Sys2Proof.core.run (n + 1) s = Sys2Proof.core.run n t := by
  have hs : Sys2Proof.core.step s = .next t := h
  simp only [Host.Core.run, hs]

end Machine

end Sys2Proof
end

