-- ==== Sys2Proof/Laws/Fairness.lean ====
section
/-! SUPPORT. What the fairness of R281 gives (R140): a fair run exists, and in every fair run the block's wait for a READY
DSP to take a byte, and its wait for a booting DSP to present one, end. -/

namespace Sys2Proof.Machine.State

/-! ### Runs and their turns -/

/-- One step of a play is its turn, run in the state before it. -/
theorem Play.turn {r : Nat → State} {τ : Nat → Turn} (h : Play r τ) (n : Nat) :
    ({ r n with turns := [] } : State).runTurn (τ n) = .next (r (n + 1)) := h n

/-- A block right after reset whose turns are all the sequencer's, with a host that never presents a request, makes a
fair run: nothing is enabled. -/
theorem fair_idle (c : Config) : Play (fun _ => resetWith c) (fun _ => .sequencer)
    ∧ Fair (fun _ => resetWith c) (fun _ => .sequencer) where
  left _ := rfl
  right :=
    { sequencer := fun _ h => by cases h
      noise := fun _ h => by cases h _ (Nat.le_refl _)
      boot := fun _ h => by cases h
      busy := fun _ h => by cases h
      output := fun _ h => by cases h
      session := fun _ h => by cases h
      lock := fun _ h => by cases h }

/-- A wait ends: while it lasts it is kept by every step or done, what it waits for comes and stays, and then the
sequencer's next step ends it. -/
theorem wait_ends {r : Nat → State} {τ : Nat → Turn} (hf : Fair r τ) {waits come : State → Prop} {done : Nat → Prop}
    (busy : ∀ s, waits s → s.seq = .busy) (kept : ∀ n, waits (r n) → waits (r (n + 1)) ∨ done (n + 1))
    (comes : ∀ n, waits (r n) → ∃ m, n ≤ m ∧ (¬ waits (r m) ∨ come (r m)))
    (stays : ∀ n, waits (r n) → come (r n) → come (r (n + 1)) ∨ done (n + 1))
    (ends : ∀ n, waits (r n) → come (r n) → τ n = .sequencer → done (n + 1)) {n : Nat} (h : waits (r n)) :
    ∃ m, n < m ∧ done m := by
  by_contra hn
  have never : ∀ m, n < m → ¬ done m := fun m hm hd => hn ⟨m, hm, hd⟩
  have on : ∀ k, waits (r (n + k)) := by
    intro k
    induction k with
    | zero => exact h
    | succ k ih => exact (kept _ ih).resolve_right (never _ (by omega))
  obtain ⟨m, hm, hc⟩ := comes n h
  obtain ⟨k, rfl⟩ := Nat.exists_eq_add_of_le hm
  have here : come (r (n + k)) := hc.resolve_left fun h => h (on k)
  have still : ∀ j, come (r (n + k + j)) := by
    intro j
    induction j with
    | zero => exact here
    | succ j ih => exact (stays _ (by rw [Nat.add_assoc]; exact on _) ih).resolve_right (never _ (by omega))
  obtain ⟨q, hq, hs⟩ := hf.sequencer _ (busy _ (on k))
  obtain ⟨j, rfl⟩ := Nat.exists_eq_add_of_le hq
  have hw : waits (r (n + k + j)) := by rw [Nat.add_assoc]; exact on _
  exact never _ (by omega) (ends _ hw (still j) (hs.resolve_left fun h => h (busy _ hw)))

/-! ### What leaves the sequencer where it is -/

/-- The sequencer stands, BUSY, at the same place of the same microcode. -/
def SamePlace (s t : State) : Prop :=
  t.seq = .busy ∧ t.sel = s.sel ∧ t.upc = s.upc ∧ t.ucode = s.ucode ∧ t.cfg = s.cfg

theorem SamePlace.trans {s t u : State} (h : SamePlace s t) (h' : SamePlace t u) : SamePlace s u :=
  ⟨h'.1, h'.2.1.trans h.2.1, h'.2.2.1.trans h.2.2.1, h'.2.2.2.1.trans h.2.2.2.1, h'.2.2.2.2.trans h.2.2.2.2⟩

theorem SamePlace.fetchInstr {s t : State} (h : SamePlace s t) : t.fetchInstr = s.fetchInstr := by
  unfold State.fetchInstr State.fetch
  rw [h.2.1, h.2.2.1, h.2.2.2.1]

/-- A step that is not the sequencer's halts a BUSY block, or leaves the sequencer where it is and moves the DSP, if
at all, by a step of its own. -/
theorem turn_elsewhere {s t : State} {τ : Turn} (hb : s.seq = .busy) (hτ : τ ≠ .sequencer)
    (h : s.runTurn τ = .next t) :
    t.seq = .halted ∨ (SamePlace s t ∧ (t.dsp = s.dsp ∨ ∃ m, s.dspMove m = .next t)) := by
  cases τ with
  | sequencer => exact absurd rfl hτ
  | host ws =>
    simp only [runTurn, hostTurn] at h
    split at h
    · rename_i i hd
      split at h
      · rcases exec_request_next (level_of_decodeRequest hd) h with ⟨hi, _⟩ | ⟨_, rfl⟩ | ⟨hi, _⟩
        · rw [hb] at hi; cases hi
        · exact .inl rfl
        · rw [hb] at hi; cases hi
      · cases h
        exact .inr ⟨⟨hb, rfl, rfl, rfl, rfl⟩, .inl rfl⟩
    · cases h
      simp [presentReserved, hb]
    · cases h
      exact .inr ⟨⟨hb, rfl, rfl, rfl, rfl⟩, .inl rfl⟩
  | dsp m =>
    have e := dspMove_frame h
    exact .inr ⟨by rw [e]; exact ⟨hb, rfl, rfl, rfl, rfl⟩, .inr ⟨m, h⟩⟩
  | otherUser m =>
    cases h
    rw [userMove_frame]
    exact .inr ⟨⟨hb, rfl, rfl, rfl, rfl⟩, .inl rfl⟩

/-- A READY DSP's own step leaves it READY, and never makes it busy. -/
theorem dspMove_ready {s t : State} {m : DspMove} (hr : s.dsp.st = .ready) (h : s.dspMove m = .next t) :
    t.dsp.st = .ready ∧ (s.dsp.busy = false → t.dsp.busy = false) := by
  cases m
  case transfer =>
    rcases dspTransfer_next h with rfl | ⟨r, _, _, _, _, _, rfl⟩
    · exact ⟨hr, id⟩
    · rw [delivered_frame]
      exact ⟨hr, id⟩
  case starve =>
    rcases dspStarve_next h with rfl | ⟨_, rfl⟩
    · exact ⟨hr, id⟩
    · rw [stepSession_frame]
      exact ⟨hr, id⟩
  all_goals
    simp only [dspMove, Host.Outcome.next.injEq] at h
    subst h
    repeat' split
    all_goals simp_all [setDsp]

/-- A booting DSP's own step leaves it in BOOT or presents a byte; a DSP in BOOT or READY with a byte available keeps
it. -/
theorem dspMove_boot {s t : State} {m : DspMove} (hr : s.dsp.st = .boot ∨ s.dsp.st = .ready ∧ s.dsp.avail = true)
    (h : s.dspMove m = .next t) :
    (t.dsp.st = .boot ∨ t.dsp.st = .ready ∧ t.dsp.avail = true) ∧ (s.dsp.avail = true → t.dsp.avail = true) := by
  cases m
  case transfer =>
    rcases dspTransfer_next h with rfl | ⟨r, _, _, _, _, _, rfl⟩
    · exact ⟨hr, id⟩
    · rw [delivered_frame]
      exact ⟨hr, id⟩
  case starve =>
    rcases dspStarve_next h with rfl | ⟨_, rfl⟩
    · exact ⟨hr, id⟩
    · rw [stepSession_frame]
      exact ⟨hr, id⟩
  all_goals
    simp only [dspMove, Host.Outcome.next.injEq] at h
    subst h
    repeat' split
    all_goals first | exact ⟨hr, id⟩ | (rcases hr with hr | hr <;> simp_all [setDsp])

/-! ### The waits that end (R140) -/

/-- How a wait of the sequencer at `s` is over: it has advanced, or the block has halted. -/
def WaitOver (s t : State) : Prop := t.seq = .halted ∨ (t.seq = .busy ∧ t.upc = s.upc + 1)

/-- A poll that the sequencer runs holds where it is with the DSP as it was, advances, or faults. -/
theorem poll_over (u : State) (r : DspReg) (x : Byte) (b : Bool) (hb : u.seq = .busy) :
    WaitOver u (u.poll r x b) ∨ (b = false ∧ SamePlace u (u.poll r x b) ∧ (u.poll r x b).dsp = u.dsp) := by
  cases b
  · simp only [poll, Bool.false_eq_true, if_false]
    split
    · exact .inl (.inl rfl)
    · exact .inr ⟨trivial, ⟨hb, rfl, rfl, rfl, rfl⟩, rfl⟩
  · exact .inl (.inr ⟨hb, rfl⟩)

/-- The sequencer's turn runs what it fetches. -/
theorem sequencerTurn_fetched {s : State} {i : Instr} (hb : s.seq = .busy) (hi : s.fetchInstr = some i) :
    s.runTurn .sequencer = exec i s := by
  simp [runTurn, sequencerTurn, hb, hi]

theorem pollWr_next {s t : State} (hb : s.seq = .busy) (h : exec .pollWr s = .next t) :
    WaitOver s t ∨ (busyFlag s.readWstatus.1 = true ∧ SamePlace s t ∧ t.dsp = s.dsp) := by
  cases h
  rcases poll_over s.readWstatus.2 .wstatus s.readWstatus.1 (!busyFlag s.readWstatus.1) (by simpa using hb) with h | h
  · left
    simpa [WaitOver] using h
  · right
    simpa [SamePlace] using h

theorem pollRd_next {s t : State} (hb : s.seq = .busy) (h : exec .pollRd s = .next t) :
    WaitOver s t ∨ (availFlag s.readRstatus.1 = false ∧ SamePlace s t ∧ t.dsp = s.dsp) := by
  cases h
  rcases poll_over s.readRstatus.2 .rstatus s.readRstatus.1 (availFlag s.readRstatus.1) (by simpa using hb) with h | h
  · left
    simpa [WaitOver] using h
  · right
    simpa [SamePlace] using h

/-- Where a wait at `s` is over, it is over for any state that stands at the same place. -/
theorem WaitOver.of_samePlace {s u t : State} (h : WaitOver u t) (hs : SamePlace s u) : WaitOver s t := by
  unfold WaitOver at h ⊢
  rwa [← hs.2.2.1]

/-- A turn while the sequencer waits in `POLL_WR` for a READY DSP: the wait is over, or it goes on with the DSP READY; a
DSP that is not busy stays so, and the sequencer's own turn ends the wait. -/
theorem pollWr_turn {s t : State} {τ : Turn} (hb : s.seq = .busy) (hi : s.fetchInstr = some .pollWr)
    (hr : s.dsp.st = .ready) (h : s.runTurn τ = .next t) :
    WaitOver s t ∨ ((SamePlace s t ∧ t.dsp.st = .ready) ∧
      (s.dsp.busy = false → t.dsp.busy = false ∧ τ ≠ .sequencer)) := by
  by_cases hτ : τ = .sequencer
  · rw [hτ, sequencerTurn_fetched hb hi] at h
    refine (pollWr_next hb h).imp_right fun ⟨hx, hp, hd⟩ => ⟨⟨hp, hd ▸ hr⟩, fun hbz => ?_⟩
    simp [readWstatus, hr, hbz] at hx
  · rcases turn_elsewhere hb hτ h with h | ⟨h, hd | ⟨m, hd⟩⟩
    · exact .inl (.inl h)
    · exact .inr ⟨⟨h, hd ▸ hr⟩, fun hbz => ⟨hd ▸ hbz, hτ⟩⟩
    · obtain ⟨h1, h2⟩ := dspMove_ready hr hd
      exact .inr ⟨⟨h, h1⟩, fun hbz => ⟨h2 hbz, hτ⟩⟩

/-- A DSP on its way to READY: in BOOT, or READY with its byte still available. -/
def Booting (d : Dsp) : Prop := d.st = .boot ∨ d.st = .ready ∧ d.avail = true

/-- A turn while the sequencer waits in `POLL_RD` for a booting DSP: the wait is over, or it goes on with the DSP
booting; an available byte stays, and the sequencer's own turn ends the wait. -/
theorem pollRd_turn {s t : State} {τ : Turn} (hb : s.seq = .busy) (hi : s.fetchInstr = some .pollRd)
    (hr : Booting s.dsp) (h : s.runTurn τ = .next t) :
    WaitOver s t ∨ ((SamePlace s t ∧ Booting t.dsp) ∧
      (s.dsp.avail = true → t.dsp.avail = true ∧ τ ≠ .sequencer)) := by
  by_cases hτ : τ = .sequencer
  · rw [hτ, sequencerTurn_fetched hb hi] at h
    refine (pollRd_next hb h).imp_right fun ⟨hx, hp, hd⟩ => ⟨⟨hp, hd ▸ hr⟩, fun hav => ?_⟩
    have : s.dsp.st ≠ .unknown := by rcases hr with h | ⟨h, _⟩ <;> rw [h] <;> decide
    simp [readRstatus, this, hav] at hx
  · rcases turn_elsewhere hb hτ h with h | ⟨h, hd | ⟨m, hd⟩⟩
    · exact .inl (.inl h)
    · exact .inr ⟨⟨h, hd ▸ hr⟩, fun hav => ⟨hd ▸ hav, hτ⟩⟩
    · obtain ⟨h1, h2⟩ := dspMove_boot hr hd
      exact .inr ⟨⟨h, h1⟩, fun hav => ⟨h2 hav, hτ⟩⟩

/-- In a fair run the wait of `POLL_WR` for a READY DSP ends (R140, R281 (c)). -/
theorem Fair.pollWr_ends {r : Nat → State} {τ : Nat → Turn} (hp : Play r τ) (hf : Fair r τ) {n : Nat}
    (hb : (r n).seq = .busy) (hi : (r n).fetchInstr = some .pollWr) (hr : (r n).dsp.st = .ready) :
    ∃ m, n < m ∧ WaitOver (r n) (r m) := by
  have once : ∀ m, (SamePlace (r n) (r m) ∧ (r m).dsp.st = .ready) →
      WaitOver (r n) (r (m + 1)) ∨ ((SamePlace (r n) (r (m + 1)) ∧ (r (m + 1)).dsp.st = .ready) ∧
        ((r m).dsp.busy = false → (r (m + 1)).dsp.busy = false ∧ τ m ≠ .sequencer)) := fun m ⟨hs, hm⟩ =>
    (pollWr_turn (s := { r m with turns := [] }) hs.1 (hs.fetchInstr.trans hi) hm (hp.turn m)).imp
      (fun h => h.of_samePlace hs) (fun h => ⟨⟨hs.trans h.1.1, h.1.2⟩, h.2⟩)
  refine wait_ends hf (waits := fun s => SamePlace (r n) s ∧ s.dsp.st = .ready) (come := fun s => s.dsp.busy = false)
    (done := fun m => WaitOver (r n) (r m)) (fun s h => h.1.1) (fun m h => (once m h).symm.imp (·.1) id)
    (fun m h => ?_) (fun m h hc => (once m h).symm.imp (fun h' => (h'.2 hc).1) id)
    (fun m h hc hτ => (once m h).resolve_right fun h' => (h'.2 hc).2 hτ) ⟨⟨hb, rfl, rfl, rfl, rfl⟩, hr⟩
  cases hbz : (r m).dsp.busy
  · exact ⟨m, Nat.le_refl _, .inr hbz⟩
  · obtain ⟨k, hk, h'⟩ := hf.busy m h.2 hbz
    exact ⟨k, hk, h'.imp (fun h' hw => h' hw.2) id⟩

/-- In a fair run the wait of `POLL_RD` for a booting DSP ends (R140, R281 (b)). -/
theorem Fair.pollRd_boot_ends {r : Nat → State} {τ : Nat → Turn} (hp : Play r τ) (hf : Fair r τ) {n : Nat}
    (hb : (r n).seq = .busy) (hi : (r n).fetchInstr = some .pollRd) (hr : (r n).dsp.st = .boot) :
    ∃ m, n < m ∧ WaitOver (r n) (r m) := by
  have once : ∀ m, (SamePlace (r n) (r m) ∧ Booting (r m).dsp) →
      WaitOver (r n) (r (m + 1)) ∨ ((SamePlace (r n) (r (m + 1)) ∧ Booting (r (m + 1)).dsp) ∧
        ((r m).dsp.avail = true → (r (m + 1)).dsp.avail = true ∧ τ m ≠ .sequencer)) := fun m ⟨hs, hm⟩ =>
    (pollRd_turn (s := { r m with turns := [] }) hs.1 (hs.fetchInstr.trans hi) hm (hp.turn m)).imp
      (fun h => h.of_samePlace hs) (fun h => ⟨⟨hs.trans h.1.1, h.1.2⟩, h.2⟩)
  refine wait_ends hf (waits := fun s => SamePlace (r n) s ∧ Booting s.dsp) (come := fun s => s.dsp.avail = true)
    (done := fun m => WaitOver (r n) (r m)) (fun s h => h.1.1) (fun m h => (once m h).symm.imp (·.1) id)
    (fun m h => ?_) (fun m h hc => (once m h).symm.imp (fun h' => (h'.2 hc).1) id)
    (fun m h hc hτ => (once m h).resolve_right fun h' => (h'.2 hc).2 hτ) ⟨⟨hb, rfl, rfl, rfl, rfl⟩, .inl hr⟩
  rcases h.2 with hst | ⟨_, hav⟩
  · cases hav : (r m).dsp.avail
    · obtain ⟨k, hk, h'⟩ := hf.boot m hst hav
      refine ⟨k, hk, ?_⟩
      rcases h' with h' | h'
      · exact or_iff_not_imp_right.mpr fun ha hw => hw.2.elim h' fun hw => ha hw.2
      · exact .inr h'
    · exact ⟨m, Nat.le_refl _, .inr hav⟩
  · exact ⟨m, Nat.le_refl _, .inr hav⟩

end Sys2Proof.Machine.State
end

