-- ==== Sys2Proof/Laws/Listing.lean ====
section
/-! SUPPORT. What stands where in the listings (R138): which micro-operation may follow which, checked once over all
eight, and where a step of a built block leaves the sequencer. The invariants of Safety.lean follow control by these. -/

namespace Sys2Proof.Machine

/-- An `OUT WDATA`. -/
def isDataOut : Instr → Bool
  | .out .wdata _ => true
  | _ => false

/-- An `IN`. -/
def isDataIn : Instr → Bool
  | .inp _ => true
  | _ => false

/-- Where a micro-operation may stand: the entries of `SUBMIT` at their indexes, the branches with their targets. -/
def standsAt (sel : Byte) (n : Nat) : Instr → Bool
  | .endOp _ => sel != 0x08 || n == 31
  | .bneV _ t => sel == 0x01 && t == 3
  | .bltFull t => sel == 0x08 && n == 3 && t == 31
  | .chkSpace => sel == 0x08 && n == 0
  | .copy => sel == 0x08 && n == 1
  | .adv => sel == 0x08 && n == 2
  | .loadTrig => sel == 0x08 && n == 4
  | .ofsClr => sel == 0x08 && n == 30
  | .dspReset | .dspQueryVersion | .dspProgramOutput _ _ | .dspReadByte | .dspWriteByte _ | .dmaConfigure _ _ _
  | .startPlayback _ _ _ | .submit _ _ | .getVersion | .setOutputRate _ | .dma8Output _ _ => false
  | .out _ _ | .inp _ | .pollWr | .pollRd | .delay _ | .chkCnt | .log _ | .chkDma | .dmaLock | .dmaUnlock | .dmaDisable
  | .dmaClearFf | .dmaSetMode | .dmaSetAddr | .dmaSetCount | .dmaEnable => sel != 0x08 || (5 ≤ n && n ≤ 29)

/-- `j` may stand directly after `i`: a data access after its poll (R156), the channel operations under the lock and in
their order after the region's check (R211, R212, R213). -/
def follows (i j : Instr) : Bool :=
  (!isDataOut j || i == .pollWr) && (!isDataIn j || i == .pollRd)
  && (State.underLockOp (some j) == (i == .dmaLock || (State.underLockOp (some i) && i != .dmaUnlock)))
  && (!(j == .dmaSetMode || j == .dmaSetAddr || j == .dmaSetCount)
    || (i == .dmaClearFf || i == .dmaSetMode || i == .dmaSetAddr))
  && (!State.checkedOp (some j) || (i == .chkDma || State.checkedOp (some i)))
  && (!State.reconfiguringOp (some j) || (i == .dmaDisable || (State.reconfiguringOp (some i) && i != .dmaEnable)))
  && (!(j == .dmaSetAddr) || i == .dmaSetMode) && (!(j == .dmaSetCount) || i == .dmaSetAddr)
  && (!(j == .dmaEnable) || i == .dmaSetCount)

/-- A listing, from an index on, has every entry where it may stand, `END` at its end alone, and each entry after one
it may follow. -/
def wellPlaced (sel : Byte) : Nat → List Instr → Bool
  | _, [] => true
  | n, i :: is => standsAt sel n i && (match i with
    | .endOp _ => is.isEmpty
    | _ => match is.head? with
      | some j => follows i j
      | none => false) && wellPlaced sel (n + 1) is

theorem wellPlaced_get {sel : Byte} {us : List Instr} {k n : Nat} {i : Instr} (h : wellPlaced sel k us = true)
    (hi : us[n]? = some i) :
    standsAt sel (k + n) i = true ∧ ((∃ src, i = .endOp src) ∨ ∃ j, us[n + 1]? = some j ∧ follows i j = true) := by
  induction us generalizing k n with
  | nil => cases hi
  | cons x xs ih =>
    simp only [wellPlaced, Bool.and_eq_true] at h
    cases n with
    | zero =>
      cases hi
      refine ⟨h.1.1, ?_⟩
      have h2 := h.1.2
      split at h2
      · exact .inl ⟨_, rfl⟩
      · right
        split at h2
        · rename_i j hj
          refine ⟨j, ?_, h2⟩
          cases xs with
          | nil => cases hj
          | cons y ys => simpa using hj
        · cases h2
    | succ n =>
      have := ih h.2 hi
      rw [show k + (n + 1) = k + 1 + n by omega]
      exact this

namespace Microcode

theorem wellPlaced_listing (c : Config) (sel : Byte) : wellPlaced sel 0 (listing c sel) = true := by
  by_cases hs : sel ∈ selectors
  · simp only [selectors, List.mem_cons, List.not_mem_nil, or_false] at hs
    rcases hs with rfl | rfl | rfl | rfl | rfl | rfl | rfl | rfl <;> rfl
  · rw [listing_reserved c hs]
    rfl

/-- No listing has more than 32 entries (R24, R138). -/
theorem length_listing_le (c : Config) (sel : Byte) : (listing c sel).length ≤ 32 := by
  by_cases hs : sel ∈ selectors
  · simp only [selectors, List.mem_cons, List.not_mem_nil, or_false] at hs
    rcases hs with rfl | rfl | rfl | rfl | rfl | rfl | rfl | rfl <;> exact Nat.le_of_ble_eq_true rfl
  · rw [listing_reserved c hs]
    simp

/-- The first entry of a listing accesses no data and needs no lock and no check. -/
theorem listing_head (c : Config) {sel : Byte} (h : sel ∈ selectors) :
    ∃ i, (listing c sel)[0]? = some i ∧ isDataOut i = false ∧ isDataIn i = false ∧ State.underLockOp (some i) = false ∧
      State.checkedOp (some i) = false ∧ State.reconfiguringOp (some i) = false := by
  simp only [selectors, List.mem_cons, List.not_mem_nil, or_false] at h
  rcases h with rfl | rfl | rfl | rfl | rfl | rfl | rfl | rfl <;> exact ⟨_, rfl, rfl, rfl, rfl, rfl, rfl⟩

end Microcode

namespace State

/-- A micro-operation of a listing stands where it may, and the next entry may follow it unless it is `END`. -/
theorem current_placed {s : State} {i : Instr} (hi : s.current = some i) :
    standsAt s.sel s.upc i = true ∧ ((∃ src, i = .endOp src) ∨
      ∃ j, (Microcode.listing s.cfg s.sel)[s.upc + 1]? = some j ∧ follows i j = true) := by
  have := wellPlaced_get (Microcode.wellPlaced_listing s.cfg s.sel) hi
  rwa [Nat.zero_add] at this

/-- What the sequencer of a built block fetches is the current micro-operation. -/
theorem current_of_fetchInstr {s : State} {i : Instr} (hc : s.Control) (h : s.fetchInstr = some i) :
    s.current = some i := by
  rw [fetchInstr_built hc.built.2] at h
  exact h

end State

/-- Where a micro-operation that goes on leaves the sequencer: at the same entry, at one that may follow, at the poll
of the reset loop, or at the `END` of a `SUBMIT` that did not fill the buffer. -/
theorem MicroStep.current_next {s t : State} {i : Instr} (h : MicroStep s i t) (hi : s.current = some i)
    (hb : s.seq = .busy) (ht : t.seq = .busy) :
    (t.upc = s.upc ∧ t.current = some i ∧ (i = .pollWr ∨ i = .pollRd ∨ i = .dmaLock ∧ t.lock = s.lock ∨ i = .copy)) ∨
    (∃ j, t.upc = s.upc + 1 ∧ t.current = some j ∧ follows i j = true) ∨
    (∃ imm, i = .bneV imm 3 ∧ s.sel = 0x01 ∧ t.upc = 3 ∧ t.current = some .pollRd) ∨
    (i = .bltFull 31 ∧ s.sel = 0x08 ∧ s.upc = 3 ∧ t.upc = 31 ∧ t.current = some (.endOp .acc)) := by
  obtain ⟨h1, -, h3, h4⟩ := h.control hb
  obtain ⟨hp, hn⟩ := State.current_placed hi
  have cur : t.current = (Microcode.listing s.cfg s.sel)[t.upc]? := by
    unfold State.current
    rw [h1, h3]
  rcases h4 with h | ⟨h, -⟩ | ⟨-, h, h'⟩ | ⟨-, h, h'⟩ | ⟨-, imm, h⟩ | ⟨-, h⟩
  · simp [h] at ht
  · simp [h] at ht
  · refine .inl ⟨h, ?_, h'⟩
    rw [cur, h]
    exact hi
  · rcases hn with ⟨src, rfl⟩ | ⟨j, hj, hf⟩
    · exact absurd rfl (h' src)
    · refine .inr (.inl ⟨j, h, ?_, hf⟩)
      rw [cur, h]
      exact hj
  · subst h
    simp only [standsAt, Bool.and_eq_true, beq_iff_eq] at hp
    refine .inr (.inr (.inl ⟨imm, by rw [hp.2], hp.1, hp.2, ?_⟩))
    rw [cur, hp.1, hp.2]
    rfl
  · subst h
    simp only [standsAt, Bool.and_eq_true, beq_iff_eq] at hp
    refine .inr (.inr (.inr ⟨by rw [hp.2], hp.1.1, hp.1.2, hp.2, ?_⟩))
    rw [cur, hp.1.1, hp.2]
    rfl

end Sys2Proof.Machine
end

