-- ==== Sys2Proof/Laws/PerInstr.lean ====
section
/-! SUPPORT. What is said of every instruction as a written form, one lemma per constructor. -/

namespace Sys2Proof.Laws.FirstWord

/-- The first word of an instruction is its code, which is one byte, and the operand words follow it. -/
def Statement (i : Instr) : Prop := (encode i).head? = some i.code.toNat ∧ i.code.toNat < 256 ∧ (encode i).tail = i.operands

theorem of_code (i : Instr) : Statement i := ⟨rfl, i.code.isLt, rfl⟩

theorem dspReset : Statement .dspReset := of_code _
theorem dspQueryVersion : Statement .dspQueryVersion := of_code _
theorem dspProgramOutput (r : Word16) (c : Count) : Statement (.dspProgramOutput r c) := of_code _
theorem dspReadByte : Statement .dspReadByte := of_code _
theorem dspWriteByte (b : Byte) : Statement (.dspWriteByte b) := of_code _
theorem dmaConfigure (h : ChanNo) (a : Nat) (c : Count) : Statement (.dmaConfigure h a c) := of_code _
theorem startPlayback (a : Nat) (c : Count) (r : Word16) : Statement (.startPlayback a c r) := of_code _
theorem submit (k : Nat) (x : List Byte) : Statement (.submit k x) := of_code _
theorem out (r : OutReg) (x : ByteSource) : Statement (.out r x) := of_code _
theorem inp (d : InDest) : Statement (.inp d) := of_code _
theorem pollWr : Statement .pollWr := of_code _
theorem pollRd : Statement .pollRd := of_code _
theorem delay (d : Nat) : Statement (.delay d) := of_code _
theorem endOp (x : EndSource) : Statement (.endOp x) := of_code _
theorem bneV (x : Byte) (t : Nat) : Statement (.bneV x t) := of_code _
theorem chkCnt : Statement .chkCnt := of_code _
theorem log (k : LogKind) : Statement (.log k) := of_code _
theorem chkDma : Statement .chkDma := of_code _
theorem dmaLock : Statement .dmaLock := of_code _
theorem dmaUnlock : Statement .dmaUnlock := of_code _
theorem dmaDisable : Statement .dmaDisable := of_code _
theorem dmaClearFf : Statement .dmaClearFf := of_code _
theorem dmaSetMode : Statement .dmaSetMode := of_code _
theorem dmaSetAddr : Statement .dmaSetAddr := of_code _
theorem dmaSetCount : Statement .dmaSetCount := of_code _
theorem dmaEnable : Statement .dmaEnable := of_code _
theorem chkSpace : Statement .chkSpace := of_code _
theorem copy : Statement .copy := of_code _
theorem adv : Statement .adv := of_code _
theorem bltFull (t : Nat) : Statement (.bltFull t) := of_code _
theorem loadTrig : Statement .loadTrig := of_code _
theorem ofsClr : Statement .ofsClr := of_code _
theorem getVersion : Statement .getVersion := of_code _
theorem setOutputRate (r : Word16) : Statement (.setOutputRate r) := of_code _
theorem dma8Output (m : Byte) (c : Word16) : Statement (.dma8Output m c) := of_code _

end Sys2Proof.Laws.FirstWord
end

