-- ==== Sys2Proof/Tests/Slice0.lean ====
section
/-! SUPPORT. Tests: checks of well-formedness, words written out from spec/30_encoding.md, single steps with the results
spec/95_test_vectors.md gives (the vector's name stands at each), and for every statement a witness that meets its
hypotheses. -/

namespace Sys2Proof.Tests

open Sys2Proof Sys2Proof.Machine

/-! ### Small states -/

/-- The parameters of the capacity-4 scenario (spec/95_test_vectors.md 3.2). -/
def c4 : Config := { Config.default with cap := 4, bufPaddr := 0x30000 }

/-- The same with numeric limits. -/
def c4Limited : Config := { c4 with pollLimit := some 2, resetReadLimit := some 2 }

/-- The "ready DSP" of spec/95_test_vectors.md. -/
def readyDsp : Dsp := { State.resetDsp with st := .ready }

/-- A block after reset with a ready DSP and draws of zero. -/
def base : State := { State.resetWith c4 with dsp := readyDsp, draws := List.replicate 16 0 }

/-- The base with another DSP. -/
def withDsp (f : Dsp → Dsp) : State := { base with dsp := f base.dsp }

/-- The base inside a request, at an entry. -/
def at' (sel : Byte) (upc : Nat) : State := { base with seq := .busy, sel := sel, upc := upc }

/-- Channel 1 with the given registers, lock held, latch cleared, at an entry of `DMA_CONFIGURE`. -/
def locked (upc : Nat) (c : Channel) : State :=
  { at' 0x06 upc with
    ch := 1, paddr := 0x30000, cnt := 4, lock := .seq, ff := .cleared, channels := base.channels.set 1 c }

/-- A masked channel programmed for the region of four bytes at 0x30000. -/
def chan (mask : Bool) (xfer : Nat) : Channel := ⟨mask, .singleM2D, 0x30000, 4, xfer⟩

/-- A DSP with a session of `len` bytes, `done` of them taken, and channel 1 as given. -/
def playing (len done : Nat) (c : Channel) : State :=
  { base with dsp := { readyDsp with sess := some ⟨0, len, done⟩ }, channels := base.channels.set 1 c }

/-- The outcome is a next state with a property. -/
def nextIs (r : Result) (p : State → Bool) : Bool :=
  match r with
  | .next t => p t
  | _ => false

/-- A step taken with the turn given. -/
def stepOf (t : Turn) (s : State) : Result := step { s with turns := [t] }

/-- A rejection by name, or none. -/
def rejection (r : Except DecodeError Instr) : Option DecodeError :=
  match r with
  | .error e => some e
  | .ok _ => none

/-- The instruction decoded, or none. -/
def decoded (l : Level) (ws : List Nat) : Option Instr :=
  match decode l ws with
  | .ok i => some i
  | .error _ => none

/-! ### Well-formedness: an ill-formed term for each check, refused -/

theorem test_wf_paddr : (Instr.dmaConfigure 1 (2 ^ 24) 4).wf c4 = false ∧ (Instr.dmaConfigure 1 (2 ^ 24 - 1) 4).wf c4 = true
    ∧ (Instr.startPlayback (2 ^ 24) 4 11025).wf c4 = false ∧ (Instr.startPlayback 0 4 11025).wf c4 = true := by decide

theorem test_wf_submit : (Instr.submit 2 [0x10]).wf c4 = false ∧ (Instr.submit 1 [0x10]).wf c4 = true := by decide

theorem test_wf_delay : (Instr.delay 4).wf c4 = false ∧ (Instr.delay 3).wf c4 = true := by decide

theorem test_wf_targets : (Instr.bneV 0xAA 32).wf c4 = false ∧ (Instr.bneV 0xAA 31).wf c4 = true
    ∧ (Instr.bltFull 32).wf c4 = false ∧ (Instr.bltFull 31).wf c4 = true := by decide

/-- The configuration check of R8, one broken constraint at a time. -/
theorem test_config_ok : c4.ok = true ∧ Config.default.ok = true ∧ { c4 with cap := 0 }.ok = false
    ∧ { c4 with cap := 65537 }.ok = false ∧ { c4 with dmaCh := 4 }.ok = false ∧ { c4 with resetPulseUs := 2 }.ok = false
    ∧ { c4 with bufPaddr := 2 ^ 24 - 3 }.ok = false ∧ { c4 with bufPaddr := 0x1FFFD }.ok = false
    ∧ { c4 with offRdata := 0xE }.ok = false ∧ { c4 with offWdata := 0x6 }.ok = false
    ∧ { c4 with resetPulseMinUs := 0, resetPulseUs := 0 }.ok = false ∧ { c4 with resetPulseUs := 4 }.ok = true
    ∧ { c4 with sampleRate := 22050 }.ok = false ∧ { c4 with modeByte := 0x10 }.ok = false
    ∧ { c4 with pollLimit := some 0 }.ok = false ∧ { c4 with resetReadLimit := some 0 }.ok = false := by decide

/-! ### Decoding: one word of each constructor, written out from R101, R110, R112 and R117 -/

theorem test_decode_requests :
    decoded .request [0x01] = some .dspReset ∧ decoded .request [0x02] = some .dspQueryVersion
    ∧ decoded .request [0x03, 0x2B11, 0x00004] = some (.dspProgramOutput 11025 4)
    ∧ decoded .request [0x04] = some .dspReadByte ∧ decoded .request [0x05, 0xE1] = some (.dspWriteByte 0xE1)
    ∧ decoded .request [0x06, 1, 0x030000, 0x00004] = some (.dmaConfigure 1 0x30000 4)
    ∧ decoded .request [0x07, 0x030000, 0x00004, 0x2B11] = some (.startPlayback 0x30000 4 11025)
    ∧ decoded .request [0x08, 3, 0x10, 0x20, 0x30] = some (.submit 3 [0x10, 0x20, 0x30]) := by decide

theorem test_decode_port_and_end :
    decoded .micro [0x10, 0, 0x01] = some (.out .reset (.imm 0x01))
    ∧ decoded .micro [0x10, 1, 0xE1] = some (.out .wdata (.imm 0xE1))
    ∧ decoded .micro [0x10, 1, 0x100] = some (.out .wdata .regB) ∧ decoded .micro [0x10, 1, 0x101] = some (.out .wdata .rateHi)
    ∧ decoded .micro [0x10, 1, 0x102] = some (.out .wdata .rateLo)
    ∧ decoded .micro [0x10, 1, 0x103] = some (.out .wdata .cntM1Lo)
    ∧ decoded .micro [0x10, 1, 0x104] = some (.out .wdata .cntM1Hi)
    ∧ decoded .micro [0x10, 1, 0x105] = some (.out .wdata .modeByte)
    ∧ decoded .micro [0x11, 0, 0] = some (.inp .v) ∧ decoded .micro [0x11, 0, 1] = some (.inp .maj)
    ∧ decoded .micro [0x11, 0, 2] = some (.inp .min) ∧ decoded .micro [0x12] = some .pollWr
    ∧ decoded .micro [0x13] = some .pollRd ∧ decoded .micro [0x14, 3] = some (.delay 3)
    ∧ decoded .micro [0x18, 0] = some (.endOp .ok) ∧ decoded .micro [0x18, 1] = some (.endOp .v)
    ∧ decoded .micro [0x18, 2] = some (.endOp .ver) ∧ decoded .micro [0x18, 3] = some (.endOp .acc) := by decide

theorem test_decode_protocol_and_channel :
    decoded .micro [0x20, 0xAA, 3] = some (.bneV 0xAA 3) ∧ decoded .micro [0x21] = some .chkCnt
    ∧ decoded .micro [0x22, 0] = some (.log .version) ∧ decoded .micro [0x22, 1] = some (.log .intent)
    ∧ decoded .micro [0x30] = some .chkDma ∧ decoded .micro [0x31] = some .dmaLock
    ∧ decoded .micro [0x32] = some .dmaUnlock ∧ decoded .micro [0x33] = some .dmaDisable
    ∧ decoded .micro [0x34] = some .dmaClearFf ∧ decoded .micro [0x35, 0] = some .dmaSetMode
    ∧ decoded .micro [0x36] = some .dmaSetAddr ∧ decoded .micro [0x37] = some .dmaSetCount
    ∧ decoded .micro [0x38] = some .dmaEnable := by decide

theorem test_decode_staging_and_dsp :
    decoded .micro [0x40] = some .chkSpace ∧ decoded .micro [0x41] = some .copy ∧ decoded .micro [0x42] = some .adv
    ∧ decoded .micro [0x43, 31] = some (.bltFull 31) ∧ decoded .micro [0x44] = some .loadTrig
    ∧ decoded .micro [0x45] = some .ofsClr ∧ decoded .dsp [0xE1] = some .getVersion
    ∧ decoded .dsp [0x41, 0x2B, 0x11] = some (.setOutputRate 11025)
    ∧ decoded .dsp [0xC0, 0x00, 0xFF, 0xFF] = some (.dma8Output 0x00 65535)
    ∧ decoded .dsp [0xC0, 0x00, 0x00, 0x01] = some (.dma8Output 0x00 256) := by decide

/-- Reserved and unlisted codes are rejected by name, and do not fall through to a neighbour (R111, R114, R115). -/
theorem test_decode_rejects :
    rejection (decode .request [0x00]) = some (.reservedSelector 0x00)
    ∧ rejection (decode .request [0x09, 1]) = some (.reservedSelector 0x09)
    ∧ rejection (decode .request [0xFF]) = some (.reservedSelector 0xFF)
    ∧ rejection (decode .request [0x101]) = some (.codeNotAByte 0x101) ∧ rejection (decode .request []) = some .noWord
    ∧ rejection (decode .request [0x03, 0x10000, 4]) = some (.badOperands 0x03)
    ∧ rejection (decode .request [0x03, 1, 0x20000]) = some (.badOperands 0x03)
    ∧ rejection (decode .request [0x08, 2, 0x10]) = some (.badOperands 0x08)
    ∧ rejection (decode .micro [0x15]) = some (.unlistedMicroOperation 0x15)
    ∧ rejection (decode .micro [0x39]) = some (.unlistedMicroOperation 0x39)
    ∧ rejection (decode .micro [0x10, 2, 0]) = some (.badOperands 0x10)
    ∧ rejection (decode .dsp [0x42]) = some (.unlistedCommand 0x42)
    ∧ rejection (decode .dsp [0x41, 0x2B]) = some (.badOperands 0x41) := by decide

theorem test_decode_table_word :
    decodeTableWord 8 0x01 = some .dspReset ∧ decodeTableWord 8 0x10 = some (.out .reset (.imm 0x00))
    ∧ decodeTableWord 8 0x41 = some .copy ∧ decodeTableWord 8 0xC0 = some (.dma8Output 0 0)
    ∧ decodeTableWord 8 0x09 = none := by decide

/-! ### Requests (vectors E1 to E14) -/

/-- E3: the operands are latched and the request starts at `UPC = 0`. -/
theorem test_accept_program_output : nextIs (stepOf (.host [0x03, 0x2B11, 4]) base) (fun t =>
    t.rate = 11025 ∧ t.cnt = 4 ∧ t.sel = 0x03 ∧ t.upc = 0 ∧ t.seq = .busy ∧ t.trace = [.req 0x03 [11025, 4]]) = true := by
  decide

/-- E7: `START_PLAYBACK` takes its channel from `DMA_CH`. -/
theorem test_accept_start_playback : nextIs (stepOf (.host [0x07, 0x30000, 4, 0x2B11]) base) (fun t =>
    t.paddr = 0x30000 ∧ t.cnt = 4 ∧ t.rate = 11025 ∧ t.ch = 1) = true := by decide

/-- E8 -/
theorem test_accept_submit : nextIs (stepOf (.host [0x08, 3, 0x10, 0x20, 0x30]) base) (fun t =>
    t.k = 3 ∧ t.src = [0x10, 0x20, 0x30] ∧ t.trace = [.req 0x08 [3, 0x10, 0x20, 0x30]]) = true := by decide

/-- E11: a reserved selector while IDLE. -/
theorem test_reserved_selector : nextIs (stepOf (.host [0xFF]) base) (fun t =>
    t.fault = some .badRequest ∧ t.faultInfo = ⟨none, none, .selector 0xFF⟩ ∧ t.seq = .halted) = true := by decide

/-- E12: a second request while BUSY. -/
theorem test_concurrent_request : nextIs (stepOf (.host [0x04]) (at' 0x08 1)) (fun t =>
    t.fault = some .concurrentRequest ∧ t.faultInfo = ⟨some 0x08, some 1, .selector 0x04⟩ ∧ t.seq = .halted) = true := by
  decide

/-- E13: BUSY is tested before the selector. -/
theorem test_reserved_while_busy : nextIs (stepOf (.host [0xFF]) (at' 0x02 2)) (fun t =>
    t.fault = some .concurrentRequest) = true := by decide

/-- E14: nothing changes while HALTED. -/
theorem test_request_while_halted : nextIs (stepOf (.host [0x01]) { base with seq := .halted }) (fun t =>
    t.seq = .halted ∧ t.sel = 0 ∧ t.trace = []) = true := by decide

/-! ### Port I/O (vectors IO1 to IO15) -/

/-- IO2: 0x7F has bit 7 clear. -/
theorem test_poll_wr_passes : nextIs (exec .pollWr { base with draws := [0x7F], upc := 4, polls := 1 }) (fun t =>
    t.upc = 5 ∧ t.polls = 0 ∧ t.trace = [.pr .wstatus 0x7F]) = true := by decide

/-- IO6 with a limit of 2: the fault at the second busy read. -/
theorem test_poll_wr_faults : nextIs (exec .pollWr { base with
      cfg := c4Limited, dsp := { readyDsp with busy := true }, polls := 1 }) (fun t =>
    t.fault = some .deviceNotResponding ∧ t.faultInfo.detail = .device .wstatus 2 ∧ t.upc = 0) = true := by decide

/-- IO9: no byte available, the poll holds. -/
theorem test_poll_rd_holds : nextIs (exec .pollRd { base with draws := [0x7F], upc := 4 }) (fun t =>
    t.upc = 4 ∧ t.polls = 1 ∧ t.seq = .idle ∧ t.trace = [.pr .rstatus 0x7F]) = true := by decide

/-- IO8 -/
theorem test_poll_rd_passes : nextIs (exec .pollRd { withDsp fun d => { d with avail := true } with draws := [0x7F] })
    (fun t => t.upc = 1 ∧ t.trace = [.pr .rstatus 0xFF]) = true := by decide

/-- IO12 -/
theorem test_out_rate_lo : nextIs (exec (.out .wdata .rateLo) { base with rate := 0x2B11 }) (fun t =>
    t.trace = [.pw .wdata 0x11] ∧ t.upc = 1) = true := by decide

/-- IO13 -/
theorem test_out_reset : nextIs (exec (.out .reset (.imm 0x01)) base) (fun t =>
    t.dsp.st = .held ∧ t.trace = [.pw .reset 0x01]) = true := by decide

/-- IO14 -/
theorem test_in_major : nextIs (exec (.inp .maj) (withDsp fun d => { d with avail := true, latch := 0x04 })) (fun t =>
    t.maj = 0x04 ∧ t.v = 0 ∧ t.dsp.avail = false ∧ t.trace = [.pr .rdata 0x04]) = true := by decide

/-- IO15 and, for a pulse too short, V2. -/
theorem test_delay : nextIs (exec (.delay 3) (withDsp fun d => { d with st := .held })) (fun t =>
      t.dsp.pulseOk = true ∧ t.trace = [.dly 3]) = true
    ∧ nextIs (exec (.delay 2) (withDsp fun d => { d with st := .held })) (fun t => t.dsp.pulseOk = false) = true := by
  decide

/-- R136's example: `END ACC` with `ACC = 3`. -/
theorem test_end_acc : nextIs (exec (.endOp .acc) { at' 0x08 31 with acc := 3 }) (fun t =>
    t.resp = .accepted 3 ∧ t.seq = .idle ∧ t.trace = [.rsp (.accepted 3)]) = true := by decide

/-! ### DSP protocol (vectors DS9i to DS20) -/

/-- DS15 -/
theorem test_bne_v_retries : nextIs (exec (.bneV 0xAA 3) { at' 0x01 5 with v := 0xAB }) (fun t =>
    t.upc = 3 ∧ t.retries = 1 ∧ t.trace = []) = true := by decide

/-- DS12: the second discarded byte is at the limit. -/
theorem test_bne_v_faults : nextIs (exec (.bneV 0xAA 3) { at' 0x01 5 with cfg := c4Limited, v := 0x55, retries := 1 })
    (fun t => t.faultInfo = ⟨some 0x01, some 5, .device .rdata 2⟩ ∧ t.retries = 2 ∧ t.seq = .halted) = true := by decide

/-- DS9j and the passing bound of R179. -/
theorem test_chk_cnt : nextIs (exec .chkCnt { at' 0x03 0 with cnt := 65537 }) (fun t =>
      t.faultInfo = ⟨some 0x03, some 0, .count 65537⟩ ∧ t.fault = some .transferCountRange) = true
    ∧ nextIs (exec .chkCnt { at' 0x03 0 with cnt := 65536 }) (fun t => t.upc = 1) = true := by decide

/-- DS20 -/
theorem test_log_intent : nextIs (exec (.log .intent) { base with
      triggers := 5, paddr := 0x20000, cnt := 65536, rate := 11025 }) (fun t =>
    t.triggers = 6 ∧ t.trace = [.logIntent 0x20000 65536 11025]) = true := by decide

/-! ### DMA channel (vectors M0a to M10) -/

/-- M0b, M0e, M0i: regions that pass exactly. -/
theorem test_chk_dma_passes : nextIs (exec .chkDma { base with ch := 3, paddr := 0, cnt := 65536 }) (fun t => t.upc = 1) = true
    ∧ nextIs (exec .chkDma { base with ch := 1, paddr := 0x1FFFF, cnt := 1 }) (fun t => t.upc = 1) = true
    ∧ nextIs (exec .chkDma { base with ch := 1, paddr := 0xFF0000, cnt := 65536 }) (fun t => t.upc = 1) = true := by decide

/-- M0c, M0f, M0l: a channel, a boundary and a count that fault. -/
theorem test_chk_dma_faults :
    nextIs (exec .chkDma { base with ch := 4, paddr := 0, cnt := 1 }) (fun t => t.faultInfo.detail = .region 4 0 1) = true
    ∧ nextIs (exec .chkDma { base with ch := 1, paddr := 0x1FFFF, cnt := 2 }) (fun t => t.fault = some .dmaRange) = true
    ∧ nextIs (exec .chkDma { base with ch := 1, paddr := 0x30000, cnt := 0 }) (fun t => t.fault = some .dmaRange) = true := by
  decide

/-- M2: the lock is waited for. -/
theorem test_dma_lock : nextIs (exec .dmaLock { at' 0x06 1 with lock := .other }) (fun t => t.upc = 1 ∧ t.trace = []) = true
    ∧ nextIs (exec .dmaLock (at' 0x06 1)) (fun t => t.lock = .seq ∧ t.upc = 2 ∧ t.trace = [.dma .lock]) = true := by decide

/-- M5 -/
theorem test_dma_unlock : nextIs (exec .dmaUnlock base) (fun t =>
    t.fault = some .lockState ∧ t.faultInfo.detail = .lock .free) = true := by decide

/-- M9 -/
theorem test_dma_disable : nextIs (exec .dmaDisable (locked 2 (chan false 1))) (fun t =>
    t.channel? 1 = some (chan true 1) ∧ t.trace = [.dma (.disable 1)]) = true := by decide

theorem test_dma_clear_ff : nextIs (exec .dmaClearFf { locked 3 (chan true 1) with ff := .unknown }) (fun t =>
    t.ff = .cleared ∧ t.trace = [.dma (.clrff 1)]) = true := by decide

theorem test_dma_set_mode : nextIs (exec .dmaSetMode (locked 4 State.resetChannel)) (fun t =>
    t.channel? 1 = some { State.resetChannel with mode := .singleM2D } ∧ t.channel? 0 = some State.resetChannel) = true := by
  decide

/-- M6, and R208's example. -/
theorem test_dma_set_addr : nextIs (exec .dmaSetAddr { locked 5 (chan true 2) with ff := .unknown }) (fun t =>
      t.fault = some .flipFlopNotCleared ∧ t.faultInfo.detail = .channel 1) = true
    ∧ nextIs (exec .dmaSetAddr { locked 5 (chan true 2) with paddr := 0x20000 }) (fun t =>
      t.channel? 1 = some { chan true 0 with addr := 0x20000 } ∧ t.trace = [.dma (.addr 1 0x20000)]) = true := by decide

/-- M8, and M7: the lock test comes first. -/
theorem test_dma_set_count : nextIs (exec .dmaSetCount { locked 6 (chan true 2) with cnt := 65536 }) (fun t =>
      t.channel? 1 = some { chan true 0 with count := 65536 } ∧ t.ff = .cleared ∧ t.trace = [.dma (.count 1 65536)]) = true
    ∧ nextIs (exec .dmaSetCount { base with ff := .unknown }) (fun t => t.fault = some .lockState) = true := by decide

theorem test_dma_enable : nextIs (exec .dmaEnable (locked 7 (chan true 0))) (fun t =>
    t.channel? 1 = some (chan false 0) ∧ t.trace = [.dma (.enable 1)]) = true := by decide

/-! ### Staging buffer (vectors S1 to S13) -/

/-- S12 and S9 -/
theorem test_chk_space : nextIs (exec .chkSpace { at' 0x08 0 with offset := 1, k := 5, idx := 9 }) (fun t =>
      t.acc = 3 ∧ t.idx = 0 ∧ t.upc = 1) = true
    ∧ nextIs (exec .chkSpace { at' 0x08 0 with offset := 4, k := 3 }) (fun t =>
      t.resp = .outOfSpace ∧ t.seq = .idle ∧ t.offset = 4) = true := by decide

/-- The first byte of R243's example, and the last one. -/
theorem test_copy : nextIs (exec .copy { at' 0x08 1 with acc := 3, k := 3, src := [0x10, 0x20, 0x30] }) (fun t =>
      t.mem = [(0x30000, 0x10)] ∧ t.idx = 1 ∧ t.upc = 1 ∧ t.trace = [.bufw 0 0x10]) = true
    ∧ nextIs (exec .copy { at' 0x08 1 with acc := 3, k := 3, src := [0x10, 0x20, 0x30], idx := 2, offset := 1 }) (fun t =>
      t.mem = [(0x30003, 0x30)] ∧ t.upc = 2 ∧ t.trace = [.bufw 3 0x30]) = true := by decide

/-- S13 -/
theorem test_copy_none : nextIs (exec .copy (at' 0x08 1)) (fun t => t.mem = [] ∧ t.upc = 2 ∧ t.trace = []) = true := by
  decide

/-- R244's example. -/
theorem test_adv : nextIs (exec .adv { at' 0x08 2 with offset := 3, acc := 1 }) (fun t => t.offset = 4 ∧ t.upc = 3) = true := by
  decide

/-- R245's example. -/
theorem test_blt_full : nextIs (exec (.bltFull 31) { at' 0x08 3 with offset := 3 }) (fun t => t.upc = 31) = true
    ∧ nextIs (exec (.bltFull 31) { at' 0x08 3 with offset := 4 }) (fun t => t.upc = 4) = true := by decide

/-- R246's example. -/
theorem test_load_trig : nextIs (exec .loadTrig { at' 0x08 4 with cfg := Config.default }) (fun t =>
    t.paddr = 0x20000 ∧ t.cnt = 65536 ∧ t.rate = 11025 ∧ t.ch = 1) = true := by decide

/-- R247's example. -/
theorem test_ofs_clr : nextIs (exec .ofsClr { at' 0x08 30 with offset := 4 }) (fun t => t.offset = 0 ∧ t.upc = 31) = true := by
  decide

/-! ### The DSP and the other agents (vectors V1 to V25) -/

/-- V15: a byte at parameter position is a parameter, whatever byte it is. -/
theorem test_parse_parameter : nextIs (exec (.out .wdata (.imm 0xC0)) (withDsp fun d => { d with cmd := some (0x41, [0x2B]) }))
    (fun t => t.dsp.rate = 11200 ∧ t.dsp.cmd = none) = true := by decide

/-- V12 and V13 -/
theorem test_parse_unknown : nextIs (exec (.out .wdata (.imm 0x42)) base) (fun t => t.dsp.st = .unknown) = true
    ∧ nextIs (exec (.out .wdata (.imm 0x41)) (withDsp fun d => { d with busy := true })) (fun t =>
      t.dsp.st = .unknown) = true := by decide

/-- V11 -/
theorem test_get_version : nextIs (exec .getVersion { base with draws := [0x04, 0x0D] }) (fun t =>
    t.dsp.out = [0x04, 0x0D] ∧ t.draws = []) = true := by decide

/-- V8 -/
theorem test_set_output_rate : nextIs (exec (.setOutputRate 0x2B11) base) (fun t => t.dsp.rate = 11025) = true := by decide

/-- V9 and V10 -/
theorem test_dma8_output : nextIs (exec (.dma8Output 0x00 0xFFFF) base) (fun t => t.dsp.sess = some ⟨0, 65536, 0⟩) = true
    ∧ nextIs (exec (.dma8Output 0x00 0) base) (fun t => t.dsp.sess = some ⟨0, 1, 0⟩) = true := by decide

/-- V7, and R267: 0xAA is no noise byte. -/
theorem test_boot : nextIs (stepOf (.dsp .presentReady) (withDsp fun d => { d with st := .boot })) (fun t =>
      t.dsp.st = .ready ∧ t.dsp.latch = 0xAA ∧ t.dsp.avail = true) = true
    ∧ nextIs (stepOf (.dsp (.presentNoise 0xAA)) (withDsp fun d => { d with st := .boot })) (fun t =>
      t.dsp.avail = false) = true := by decide

/-- V16 -/
theorem test_transfer : nextIs (stepOf (.dsp .transfer) { playing 4 3 (chan false 3) with mem := [(0x30003, 0x40)] }) (fun t =>
    t.trace = [.xfer 1 0x30003 0x40] ∧ t.channel? 1 = some (chan true 4) ∧ t.dsp.sess = none) = true := by decide

/-- V18: at terminal count a sample may be starved; V16's channel is armed, so it may not. -/
theorem test_starve : nextIs (stepOf (.dsp .starve) (playing 8 4 (chan true 4))) (fun t =>
      t.trace = [.underrun] ∧ t.dsp.sess = some ⟨0, 8, 5⟩) = true
    ∧ nextIs (stepOf (.dsp .starve) (playing 4 3 (chan false 3))) (fun t => t.trace = []) = true := by decide

/-- V23 and V24 -/
theorem test_other_user : nextIs (stepOf (.otherUser .acquire) { base with lock := .seq }) (fun t => t.lock = .seq) = true
    ∧ nextIs (stepOf (.otherUser (.configure .unknown 2 (chan false 0))) { base with lock := .other, ff := .cleared }) (fun t =>
      t.ff = .unknown ∧ t.channel? 2 = some (chan false 0) ∧ t.channel? 1 = some State.resetChannel) = true := by decide

/-! ### The step -/

theorem test_reset_memory_wf : State.reset.mem.wf := by decide

/-- A byte of the buffer that nothing has written has one reset value: drawn at its first read, read again as it was
after the channel is programmed again, and overwritten by a write (R66, R87, R279). -/
theorem test_transfer_unwritten : nextIs (stepOf (.dsp .transfer) { playing 4 3 (chan false 3) with draws := [0x5A, 0x77] })
      (fun t => t.trace = [.xfer 1 0x30003 0x5A] ∧ t.mem = [] ∧ t.memReset = [(0x30003, 0x5A)]) = true
    ∧ nextIs (stepOf (.dsp .transfer) { playing 4 3 (chan false 3) with memReset := [(0x30003, 0x5A)], draws := [0x77] })
      (fun t => t.trace = [.xfer 1 0x30003 0x5A] ∧ t.draws = [0x77]) = true
    ∧ nextIs (stepOf (.dsp .transfer) { playing 4 3 (chan false 3) with
        mem := [(0x30003, 0x40)], memReset := [(0x30003, 0x5A)] }) (fun t => t.trace = [.xfer 1 0x30003 0x40]) = true := by
  decide

/-- A channel armed in another mode has no transfer (R47). -/
theorem test_transfer_mode : stepOf (.dsp .transfer) (playing 4 3 ⟨false, .other, 0x30000, 4, 3⟩)
    = .fault (.channelMode 1) := rfl

/-- The first step after `withFetchWord` runs the table word's instruction, at each of the three levels. -/
theorem test_withFetchWord :
    nextIs (step (State.reset.withFetchWord 8 0x01)) (fun t => t.sel = 0x01 ∧ t.seq = .busy) = true
    ∧ nextIs (step (State.reset.withFetchWord 8 0x42)) (fun t => t.upc = 1 ∧ t.offset = 0) = true
    ∧ nextIs (step (State.reset.withFetchWord 8 0xC0)) (fun t => t.dsp.sess = some ⟨0, 1, 0⟩) = true := by decide

/-- A built block's first micro-operation of `DSP_RESET` is the write of 0x01 to RESET (R173). -/
theorem test_first_of_reset : nextIs (stepOf .sequencer (at' 0x01 0)) (fun t => t.trace = [.pw .reset 0x01]) = true := by
  decide

/-! ### Witnesses: a state and operands that meet the hypotheses of each statement, at each clause's bounds -/

theorem witness_DecodeOfEncode : (Instr.dmaConfigure 3 (2 ^ 24 - 1) 65536).wf c4 = true
    ∧ (Instr.submit 2 [0xFF, 0x00]).wf c4 = true ∧ (Instr.bltFull 31).wf c4 = true := by decide

theorem witness_EncodeOfDecode : decode .micro [0x43, 31] = .ok (.bltFull 31)
    ∧ decode .dsp [0x41, 0xFF, 0xFF] = .ok (.setOutputRate 65535) := ⟨rfl, rfl⟩

/-- The default parameters let WDATA and WSTATUS share an address (R71). -/
theorem witness_AddressSelectsRegister : Config.default.ok = true
    ∧ Config.default.address .wdata = Config.default.address .wstatus := by decide

theorem witness_StepRunsMicroOperation : ∃ s : State, s.turns = [.sequencer] ∧ s.seq = .busy
    ∧ s.fetch = some [0x10, 0, 0x01] ∧ decode .micro [0x10, 0, 0x01] = .ok (.out .reset (.imm 0x01)) :=
  ⟨{ at' 0x01 0 with turns := [.sequencer] }, rfl, rfl, by decide, rfl⟩

theorem witness_StepRunsRequest : ∃ s : State, s.turns = [.host [0x06, 3, 0xFFFFFF, 1]]
    ∧ decode .request [0x06, 3, 0xFFFFFF, 1] = .ok (.dmaConfigure 3 0xFFFFFF 1)
    ∧ (Instr.dmaConfigure 3 0xFFFFFF 1).wf s.cfg = true :=
  ⟨{ base with turns := [.host [0x06, 3, 0xFFFFFF, 1]] }, rfl, rfl, by decide⟩

/-- The last entry of the longest listing, while BUSY; and an idle and a halted block. -/
theorem witness_BuiltBlockRunsListing : (at' 0x08 31).Built ∧ (at' 0x08 31).seq = .busy
    ∧ (at' 0x08 31).current = some (.endOp .acc) ∧ base.Built ∧ base.seq ≠ .busy
    ∧ { base with seq := SeqState.halted }.seq ≠ .busy :=
  ⟨⟨by decide, rfl⟩, rfl, rfl, ⟨by decide, rfl⟩, by decide, by decide⟩

theorem witness_OutRunsCompletedCommand : base.dsp.st = .ready ∧ base.dsp.busy = false ∧ base.dsp.cmd = none
    ∧ base.byteSource (.imm 0xE1) = 0xE1
    ∧ (withDsp fun d => { d with cmd := some (0x41, [0x2B]) }).dsp.cmd = some (0x41, [hiByte 11025])
    ∧ base.byteSource (.imm 0x11) = loByte 11025
    ∧ (withDsp fun d => { d with cmd := some (0xC0, [0x00, 0xFE]) }).dsp.cmd = some (0xC0, [0x00, loByte 0xFFFE])
    ∧ base.byteSource (.imm 0xFF) = hiByte 0xFFFE := by decide

theorem witness_ResetValues : Config.default.ok = true ∧ { c4 with cap := 1, dmaCh := 3 }.ok = true := by decide

theorem witness_ResetIsSafe : Config.default.ok = true ∧ { c4 with cap := 1, dmaCh := 0 }.ok = true := by decide

theorem witness_RequestsAccepted : base.seq = .idle := rfl

/-- A listed and a reserved selector. -/
theorem witness_RequestWhileBusyFaults : ∃ s : State, s.turns = [.host [0x04]] ∧ s.seq = .busy
    ∧ decode .request [0x04] = .ok .dspReadByte ∧ Instr.dspReadByte.wf s.cfg = true ∧ Instr.dspReadByte.code = 0x04
    ∧ decode .request [0xFF] = .error (.reservedSelector 0xFF) :=
  ⟨{ at' 0x08 1 with turns := [.host [0x04]] }, rfl, rfl, rfl, rfl, rfl, rfl⟩

theorem witness_ReservedSelectorFaults : ∃ s : State, s.turns = [.host [0x00, 7]] ∧ s.seq = .idle
    ∧ (0 = 0 ∨ 9 ≤ 0) ∧ (9 = 0 ∨ 9 ≤ 9) ∧ (255 = 0 ∨ 9 ≤ 255) ∧ 255 < 256 :=
  ⟨{ base with turns := [.host [0x00, 7]] }, rfl, rfl, by decide, by decide, by decide, by decide⟩

theorem witness_RequestWhileHaltedHasNoStep : ∃ s : State, s.turns = [.host [0x01]] ∧ s.seq = .halted :=
  ⟨{ base with seq := .halted, turns := [.host [0x01]] }, rfl, rfl⟩

/-- A halted block while a session plays on (F5). -/
theorem witness_HaltedForGood : ∃ s : State, s.seq = .halted ∧ ∃ t, step s = .next t ∧ t.trace ≠ s.trace :=
  ⟨{ playing 4 3 (chan false 3) with seq := .halted, turns := [.dsp .transfer] }, rfl, _, rfl, by decide⟩

theorem witness_ResetWriteDrivesDsp :
    (withDsp fun d => { d with st := .held, pulseOk := true }).dsp.st = .held
    ∧ (withDsp fun d => { d with st := .held, pulseOk := true }).dsp.pulseOk = true
    ∧ (withDsp fun d => { d with st := .held }).dsp.pulseOk = false ∧ base.dsp.st ≠ .held
    ∧ (0x02 : Byte) ≠ 0x01 ∧ (0x02 : Byte) ≠ 0x00 := by decide

theorem witness_UnreadyWriteLosesDsp : (withDsp fun d => { d with st := .boot }).dsp.st ≠ .ready
    ∧ (withDsp fun d => { d with busy := true }).dsp.busy = true := by decide

theorem witness_CommandByteTaken : base.dsp.st = .ready ∧ base.dsp.busy = false ∧ base.dsp.cmd = none
    ∧ base.draws = 0 :: 0 :: 0 :: List.replicate 13 0 ∧ (0x42 : Byte) ≠ 0xE1 ∧ (0x42 : Byte) ≠ 0x41
    ∧ (0x42 : Byte) ≠ 0xC0 := by decide

theorem witness_ParameterByteTaken : base.draws = 0 :: List.replicate 15 0
    ∧ (withDsp fun d => { d with cmd := some (0x41, []) }).dsp.cmd = some (0x41, [])
    ∧ (withDsp fun d => { d with cmd := some (0x41, [0x2B]) }).dsp.cmd = some (0x41, [0x2B])
    ∧ (withDsp fun d => { d with cmd := some (0xC0, []) }).dsp.cmd = some (0xC0, [])
    ∧ (withDsp fun d => { d with cmd := some (0xC0, [0]) }).dsp.cmd = some (0xC0, [0])
    ∧ (withDsp fun d => { d with cmd := some (0xC0, [0, 0xFF]) }).dsp.cmd = some (0xC0, [0, 0xFF])
    ∧ (withDsp fun d => { d with cmd := some (0xC0, [0, 0xFF]) }).dsp.st = .ready
    ∧ (withDsp fun d => { d with cmd := some (0xC0, [0, 0xFF]) }).dsp.busy = false := by decide

theorem witness_InReadsDataByte : (withDsp fun d => { d with avail := true }).dsp.st ≠ .unknown
    ∧ (withDsp fun d => { d with avail := true }).dsp.avail = true ∧ base.dsp.avail = false
    ∧ (withDsp fun d => { d with st := .unknown, avail := true }).dsp.st = .unknown
    ∧ base.draws = 0 :: List.replicate 15 0 := by decide

/-- A clear bit, a set bit below the limit and without one, and a set bit at the limit. -/
theorem witness_PollWrWaitsForBusyClear : nextIs (exec .pollWr base) (fun t => t.upc = 1) = true
    ∧ nextIs (exec .pollWr (withDsp fun d => { d with busy := true })) (fun t => t.upc = 0 ∧ t.polls = 1) = true
    ∧ nextIs (exec .pollWr { withDsp fun d => { d with busy := true } with cfg := c4Limited }) (fun t =>
      t.seq = .idle ∧ t.polls = 1) = true
    ∧ nextIs (exec .pollWr { withDsp fun d => { d with busy := true } with cfg := c4Limited, polls := 1 }) (fun t =>
      t.seq = .halted ∧ t.polls = 2) = true := by decide

theorem witness_PollRdWaitsForData : nextIs (exec .pollRd (withDsp fun d => { d with avail := true })) (fun t => t.upc = 1) = true
    ∧ nextIs (exec .pollRd base) (fun t => t.upc = 0 ∧ t.polls = 1) = true
    ∧ nextIs (exec .pollRd { base with cfg := c4Limited }) (fun t => t.seq = .idle ∧ t.polls = 1) = true
    ∧ nextIs (exec .pollRd { base with cfg := c4Limited, polls := 1 }) (fun t => t.seq = .halted ∧ t.polls = 2) = true := by
  decide

theorem witness_DelayMakesPulse : (withDsp fun d => { d with st := .held }).dsp.st = .held ∧ base.cfg.resetPulseMinUs ≤ 3
    ∧ 2 < base.cfg.resetPulseMinUs ∧ base.dsp.st ≠ .held := by decide

/-- An equal byte; another one without a limit, one below a limit of 2, and one at it. -/
theorem witness_BneVRetries : { base with v := 0xAA }.v = 0xAA ∧ base.v ≠ 0xAA ∧ base.cfg.resetReadLimit = none
    ∧ c4Limited.resetReadLimit = some 2 ∧ base.retries + 1 < 2 ∧ 2 ≤ { base with retries := 1 }.retries + 1 := by decide

theorem witness_ChkCntChecksRange : (1 : Count).toNat = 1 ∧ (65536 : Count).toNat = 65536 ∧ (0 : Count).toNat = 0
    ∧ 65536 < (65537 : Count).toNat ∧ 65536 < (131071 : Count).toNat := by decide

/-- Regions at each bound (M0a to M0m), inside and outside. -/
theorem witness_ChkDmaChecksRegion :
    (∃ s : State, s.ch.toNat = 3 ∧ s.cnt.toNat = 65536 ∧ s.paddr + s.cnt.toNat = 2 ^ s.cfg.paddrWidth
      ∧ s.paddr % 65536 + s.cnt.toNat = 65536)
    ∧ (∃ s : State, 3 < s.ch.toNat) ∧ (∃ s : State, s.cnt.toNat < 1) ∧ (∃ s : State, 65536 < s.cnt.toNat)
    ∧ (∃ s : State, 2 ^ s.cfg.paddrWidth < s.paddr + s.cnt.toNat)
    ∧ ∃ s : State, 65536 < s.paddr % 65536 + s.cnt.toNat :=
  ⟨⟨{ base with ch := 3, paddr := 0xFF0000, cnt := 65536 }, by decide⟩, ⟨{ base with ch := 4 }, by decide⟩,
    ⟨{ base with cnt := 0 }, by decide⟩, ⟨{ base with cnt := 65537 }, by decide⟩,
    ⟨{ base with paddr := 0xFFFFFF, cnt := 2 }, by decide⟩, ⟨{ base with paddr := 0x1FFFF, cnt := 2 }, by decide⟩⟩

theorem witness_LockTakenAndReleased : base.lock = .free ∧ { base with lock := .other }.lock = .other
    ∧ (locked 1 (chan true 0)).lock = .seq ∧ { base with lock := .other }.lock ≠ .seq := by decide

theorem witness_ChannelOperationsUnderLock : { locked 3 (chan true 0) with ch := 4 }.lock = .seq
    ∧ (locked 2 (chan false 1)).lock = .seq
    ∧ (locked 2 (chan false 1)).channel? (locked 2 (chan false 1)).ch = some (chan false 1)
    ∧ { locked 2 (chan false 1) with ch := 3 }.channel? 3 = some State.resetChannel := by decide

theorem witness_AddressAndCountSet : (locked 5 (chan true 2)).lock = .seq ∧ (locked 5 (chan true 2)).ff = .cleared
    ∧ (locked 5 (chan true 2)).channel? (locked 5 (chan true 2)).ch = some (chan true 2) := by decide

theorem witness_ChannelOperationFaults : base.lock ≠ .seq ∧ { base with lock := .other }.lock ≠ .seq
    ∧ { locked 5 (chan true 0) with ff := .unknown }.lock = .seq
    ∧ { locked 5 (chan true 0) with ff := .unknown }.ff ≠ .cleared ∧ (locked 5 (chan true 0)).ff = .cleared
    ∧ 3 < { locked 5 (chan true 0) with ch := 4 }.ch.toNat := by decide

/-- Full; one byte of room for one byte; more bytes than room. -/
theorem witness_ChkSpaceAccepts : base.cfg.cap ≤ { base with offset := 4 }.offset
    ∧ { base with offset := 3, k := 1 }.offset < base.cfg.cap
    ∧ { base with offset := 3, k := 1 }.k = base.cfg.cap - { base with offset := 3, k := 1 }.offset
    ∧ base.cfg.cap - { base with offset := 3, k := 5 }.offset ≤ { base with offset := 3, k := 5 }.k := by decide

/-- A byte to copy, at the last place of memory too; none left; no byte in `SRC`; no place in memory. -/
theorem witness_CopyStoresOneByte :
    (∃ s : State, s.idx < s.acc ∧ s.src[s.idx]? = some 0x10
      ∧ s.cfg.bufPaddr + s.offset + s.idx + 1 = 2 ^ s.cfg.paddrWidth)
    ∧ (∃ s : State, s.acc ≤ s.idx) ∧ (∃ s : State, s.idx < s.acc ∧ s.src.length ≤ s.idx)
    ∧ ∃ s : State, s.idx < s.acc ∧ s.idx < s.src.length
      ∧ s.cfg.bufPaddr + s.offset + s.idx = 2 ^ s.cfg.paddrWidth :=
  ⟨⟨{ base with offset := 0xFCFFFF, acc := 1, src := [0x10] }, by decide⟩, ⟨base, by decide⟩,
    ⟨{ base with acc := 1 }, by decide⟩, ⟨{ base with offset := 0xFD0000, acc := 1, src := [0x10] }, by decide⟩⟩

theorem witness_StagingOperations : { base with offset := 3 }.offset < base.cfg.cap
    ∧ base.cfg.cap ≤ { base with offset := 4 }.offset ∧ base.cfg.ok = true ∧ Config.default.ok = true := by decide

theorem witness_GetVersionQueuesTwoBytes : base.dsp.st = .ready ∧ base.draws = 0 :: 0 :: List.replicate 14 0
    ∧ (withDsp fun d => { d with st := .boot }).dsp.st ≠ .ready := by decide

theorem witness_SetOutputRateTakesRate : base.dsp.st = .ready
    ∧ (withDsp fun d => { d with st := .held }).dsp.st ≠ .ready := by decide

theorem witness_Dma8OutputStartsSession : (playing 4 3 (chan false 3)).dsp.st = .ready
    ∧ (withDsp fun d => { d with st := .unknown }).dsp.st ≠ .ready := by decide

theorem witness_BootPresentsBytes : (withDsp fun d => { d with st := .boot }).dsp.st = .boot
    ∧ (withDsp fun d => { d with st := .boot }).dsp.avail = false ∧ (0xAB : Byte) ≠ 0xAA ∧ base.dsp.st ≠ .boot
    ∧ (withDsp fun d => { d with st := .boot, avail := true }).dsp.avail = true := by decide

theorem witness_ReadyDspPresentsQueue : (withDsp fun d => { d with out := [4, 13] }).dsp.out = 4 :: [13]
    ∧ (withDsp fun d => { d with out := [4, 13] }).dsp.st = .ready
    ∧ (withDsp fun d => { d with out := [4, 13] }).dsp.avail = false
    ∧ (withDsp fun d => { d with st := .held }).dsp.st ≠ .ready ∧ base.dsp.out = [] := by decide

/-- The last byte of a channel and of a session, at the last address of memory, where something has written and where
nothing has; one past it; and a channel armed in another mode. -/
theorem witness_TransferMovesOneByte :
    (∃ s : State, s.turns = [.dsp .transfer] ∧ s.dsp.st = .ready ∧ s.dsp.sess = some ⟨0, 4, 3⟩
      ∧ s.channel? s.cfg.dmaCh = some ⟨false, .singleM2D, 0xFFFFFC, 4, 3⟩ ∧ 0xFFFFFC + 3 + 1 = 2 ^ s.cfg.paddrWidth
      ∧ s.byteAt (0xFFFFFC + 3) = some 0x40)
    ∧ (∃ s : State, s.turns = [.dsp .transfer] ∧ s.dsp.st = .ready ∧ s.dsp.sess = some ⟨0, 4, 3⟩
      ∧ s.channel? s.cfg.dmaCh = some ⟨false, .singleM2D, 0xFFFFFD, 4, 3⟩ ∧ 0xFFFFFD + 3 = 2 ^ s.cfg.paddrWidth
      ∧ s.byteAt (0xFFFFFD + 2) = none ∧ s.draws = 0 :: List.replicate 15 0)
    ∧ ∃ s : State, s.turns = [.dsp .transfer] ∧ s.dsp.st = .ready ∧ s.dsp.sess = some ⟨0, 4, 3⟩
      ∧ s.channel? s.cfg.dmaCh = some ⟨false, .other, 0, 4, 3⟩ :=
  ⟨⟨{ playing 4 3 ⟨false, .singleM2D, 0xFFFFFC, 4, 3⟩ with mem := [(0xFFFFFF, 0x40)], turns := [.dsp .transfer] },
      by decide⟩,
    ⟨{ playing 4 3 ⟨false, .singleM2D, 0xFFFFFD, 4, 3⟩ with turns := [.dsp .transfer] }, by decide⟩,
    ⟨{ playing 4 3 ⟨false, .other, 0, 4, 3⟩ with turns := [.dsp .transfer] }, by decide⟩⟩

/-- Turns that move nothing: HELD and BOOT, READY with no session and with one that has no samples left, a masked channel
and one at terminal count; and a `DMA_CH` above 3. -/
theorem witness_TransferMovesOneByte_passes :
    (withDsp fun d => { d with st := .held }).dsp.st = .held ∧ (withDsp fun d => { d with st := .boot }).dsp.st = .boot
    ∧ base.dsp.st = .ready ∧ base.dsp.sess = none ∧ (playing 4 4 (chan false 0)).dsp.sess = some ⟨0, 4, 4⟩
    ∧ (playing 4 0 (chan true 0)).channel? 1 = some (chan true 0)
    ∧ (playing 4 0 (chan false 4)).channel? 1 = some (chan false 4) ∧ (chan false 4).count ≤ (chan false 4).xfer
    ∧ { base with cfg := { c4 with dmaCh := 4 } }.channel? 4 = none := by decide

/-- Masked, and at terminal count. -/
theorem witness_StarvedSampleUnderruns :
    (∃ s : State, s.turns = [.dsp .starve] ∧ s.dsp.st = .ready ∧ s.dsp.sess = some ⟨0, 4, 3⟩
      ∧ s.channel? s.cfg.dmaCh = some (chan true 3) ∧ (chan true 3).mask = true)
    ∧ ∃ s : State, s.turns = [.dsp .starve] ∧ s.dsp.st = .ready ∧ s.dsp.sess = some ⟨0, 8, 4⟩
      ∧ s.channel? s.cfg.dmaCh = some (chan false 4) ∧ (chan false 4).xfer = (chan false 4).count :=
  ⟨⟨{ playing 4 3 (chan true 3) with turns := [.dsp .starve] }, by decide⟩,
    ⟨{ playing 8 4 (chan false 4) with turns := [.dsp .starve] }, by decide⟩⟩

/-- Turns that play no sample: an armed channel with one byte left, a DSP that is not READY, no samples left. -/
theorem witness_StarvedSampleUnderruns_passes : (playing 4 3 (chan false 3)).channel? 1 = some (chan false 3)
    ∧ (chan false 3).mask = false ∧ (chan false 3).xfer + 1 = (chan false 3).count
    ∧ (withDsp fun d => { d with st := .boot }).dsp.st ≠ .ready ∧ base.dsp.sess = none
    ∧ (playing 4 4 (chan true 0)).dsp.sess = some ⟨0, 4, 4⟩ := by decide

theorem witness_UnknownDspIsUnconstrained : ∃ s : State,
    s.turns = [.dsp (.anything true 0xAA true [1] (some (0x41, [])) 5 (some ⟨0, 65536, 65536⟩))] ∧ s.dsp.st = .unknown
    ∧ ∃ t, step s = .next t ∧ t.dsp.sess = some ⟨0, 65536, 65536⟩ :=
  ⟨{ withDsp fun d => { d with st := .unknown } with
      turns := [.dsp (.anything true 0xAA true [1] (some (0x41, [])) 5 (some ⟨0, 65536, 65536⟩))] }, rfl, rfl, _, rfl, rfl⟩

/-- An UNKNOWN DSP whose transfer step moves a byte of its armed channel (R274). -/
theorem witness_UnknownDspIsUnconstrained_transfer : ∃ s t : State,
    s.turns = [.dsp .transfer] ∧ s.dsp.st = .unknown ∧ step s = .next t ∧ t.trace = s.trace ++ [.xfer 1 0x30003 0] :=
  ⟨{ playing 4 3 (chan false 3) with
      dsp := { readyDsp with st := .unknown }, turns := [.dsp .transfer] }, _, rfl, rfl, rfl, by decide⟩

theorem witness_OtherUsersKeepToTheirs : ∃ s : State,
    s.turns = [.otherUser (.configure .cleared 3 ⟨false, .other, 0xFFFFFF, 65536, 65536⟩)]
    ∧ s.lock = .other ∧ (3 : ChanNo) ≠ s.cfg.dmaCh ∧ (3 : ChanNo).toNat ≤ 3 ∧ 0xFFFFFF < 2 ^ s.cfg.paddrWidth :=
  ⟨{ base with lock := .other, turns := [.otherUser (.configure .cleared 3 ⟨false, .other, 0xFFFFFF, 65536, 65536⟩)] },
    rfl, rfl, by decide, by decide, by decide⟩

/-- A user may take the lock, may not, may give it back, may not; and a configuration that passes. -/
theorem witness_OtherUsersKeepToTheirs_lock : (∃ s : State, s.turns = [.otherUser .acquire] ∧ s.lock = .free)
    ∧ (∃ s : State, s.turns = [.otherUser .acquire] ∧ s.lock ≠ .free)
    ∧ (∃ s : State, s.turns = [.otherUser .release] ∧ s.lock = .other)
    ∧ (∃ s : State, s.turns = [.otherUser .release] ∧ s.lock ≠ .other)
    ∧ ∃ s : State, s.turns = [.otherUser (.configure .cleared 1 (chan true 0))] ∧ s.lock = .other
      ∧ (1 : ChanNo) = s.cfg.dmaCh :=
  ⟨⟨{ base with turns := [.otherUser .acquire] }, rfl, rfl⟩,
    ⟨{ base with lock := .seq, turns := [.otherUser .acquire] }, rfl, by decide⟩,
    ⟨{ base with lock := .other, turns := [.otherUser .release] }, rfl, rfl⟩,
    ⟨{ base with lock := .seq, turns := [.otherUser .release] }, rfl, by decide⟩,
    ⟨{ base with lock := .other, turns := [.otherUser (.configure .cleared 1 (chan true 0))] }, rfl, rfl, rfl⟩⟩

/-! A block about to enable its channel, under the lock: every invariant holds of it and it steps. -/

/-- `DMA_CONFIGURE` at its `DMA_ENABLE`. -/
def enabling : State := { locked 7 (chan true 0) with turns := [.sequencer] }

theorem enabling_current : enabling.current = some .dmaEnable := rfl

theorem enabling_channel {c : Channel} (h : enabling.channel? 1 = some c) : c = chan true 0 := by
  have : enabling.channel? 1 = some (chan true 0) := by decide
  rw [this] at h
  cases h
  rfl

theorem enabling_control : enabling.Control := ⟨⟨by decide, rfl⟩, fun _ => rfl⟩

theorem enabling_staging : enabling.Staging :=
  ⟨by decide, by decide, fun _ _ => by decide, fun _ h => absurd h (by decide)⟩

theorem enabling_lockHeld : enabling.LockHeld := ⟨by decide, by decide, fun _ _ => rfl⟩

theorem enabling_handshake : enabling.Handshake :=
  ⟨fun _ ⟨_, h⟩ => (by rw [enabling_current] at h; cases h), fun _ ⟨_, h⟩ => (by rw [enabling_current] at h; cases h),
    fun h => (by cases h)⟩

theorem enabling_region : enabling.Region where
  checked _ _ := by unfold State.regionInside; decide
  masked _ _ c h := by rw [enabling_channel h]; rfl
  addr_set _ _ c h := by rw [enabling_channel h]; rfl
  count_set _ _ c h := by rw [enabling_channel h]; decide
  mode_set _ _ c h := by rw [enabling_channel h]; rfl
  enabled c h hm := by rw [enabling_channel h] at hm; cases hm

theorem enabling_steps : ∃ t, step enabling = .next t ∧ t.channel? 1 = some (chan false 0) := ⟨_, rfl, by decide⟩

theorem witness_ControlKept : enabling.Control ∧ ∃ t, step enabling = .next t :=
  ⟨enabling_control, _, rfl⟩

theorem witness_LockDisciplineKept : enabling.Control ∧ enabling.LockHeld ∧ enabling.seq ≠ .halted ∧ ∃ t, step enabling = .next t :=
  ⟨enabling_control, enabling_lockHeld, by decide, _, rfl⟩

theorem witness_RegionKept : enabling.Control ∧ enabling.LockHeld ∧ enabling.Region ∧ ∃ t, step enabling = .next t :=
  ⟨enabling_control, enabling_lockHeld, enabling_region, _, rfl⟩

theorem witness_SafeNeverStops : enabling.Safe :=
  ⟨enabling_control, enabling_staging, enabling_lockHeld, enabling_handshake, enabling_region⟩

/-- A fault recorded by a step from a state of the lock's discipline: a busy DSP at a limit of 1. -/
theorem witness_LockDisciplineKept_fault : ∃ s t : State, s.seq ≠ .halted ∧ s.Control ∧ s.LockHeld ∧ step s = .next t
    ∧ t.fault ≠ s.fault :=
  ⟨{ withDsp fun d => { d with busy := true } with
      cfg := { c4 with pollLimit := some 1 }, ucode := Microcode.rom { c4 with pollLimit := some 1 }
      seq := .busy, sel := 0x05, turns := [.sequencer] }, _, by decide, ⟨⟨by decide, rfl⟩, fun _ => rfl⟩,
    ⟨by decide, by decide, by decide⟩, rfl, by decide⟩

/-- `SUBMIT` at its `COPY`, with the bytes that fill the buffer. -/
def copying : State := { at' 0x08 1 with offset := 1, k := 3, src := [0x10, 0x20, 0x30], acc := 3, turns := [.sequencer] }

theorem copying_control : copying.Control := ⟨⟨by decide, rfl⟩, fun _ => rfl⟩

theorem copying_staging : copying.Staging :=
  ⟨by decide, by decide, fun _ h => absurd rfl h, fun _ _ => by unfold State.SubmitAt; decide⟩

theorem witness_StagingKept : copying.Control ∧ copying.Staging ∧ ∃ t, step copying = .next t :=
  ⟨copying_control, copying_staging, _, rfl⟩

theorem witness_OnlyCopyWritesMemory : copying.Control ∧ copying.Staging
    ∧ ∃ t, step copying = .next t ∧ t.mem.read 0x30001 ≠ copying.mem.read 0x30001 :=
  ⟨copying_control, copying_staging, _, rfl, by decide⟩

/-- `DSP_READ_BYTE` at its `IN`, with a byte available. -/
def reading : State := { withDsp fun d => { d with avail := true } with seq := .busy, sel := 0x04, upc := 1, turns := [.sequencer] }

/-- `DSP_WRITE_BYTE` at its `OUT`, with a DSP that is not busy. -/
def writing : State := { at' 0x05 1 with turns := [.sequencer] }

theorem witness_HandshakeKept : reading.Control ∧ reading.Handshake ∧ writing.Control ∧ writing.Handshake
    ∧ (∃ t, step reading = .next t) ∧ ∃ t, step writing = .next t :=
  ⟨⟨⟨by decide, rfl⟩, fun _ => rfl⟩, ⟨fun _ _ _ => rfl, fun _ _ _ => rfl, fun h => by cases h⟩,
    ⟨⟨by decide, rfl⟩, fun _ => rfl⟩,
    ⟨fun _ _ _ => rfl, fun _ ⟨_, h⟩ => (by
      have e : writing.current = some (.out .wdata .regB) := rfl
      rw [e] at h
      cases h), fun h => by cases h⟩,
    ⟨_, rfl⟩, _, rfl⟩

/-- An armed channel and a session at their last byte, which nothing has written. -/
def lastByte : State := { playing 4 3 (chan false 3) with turns := [.dsp .transfer] }

theorem lastByte_channel {h : ChanNo} {c : Channel} (hc : lastByte.channel? h = some c) :
    c = chan false 3 ∨ c = State.resetChannel := by
  have hm : c ∈ lastByte.channels := Vector.mem_of_getElem? hc
  have : lastByte.channels = #v[State.resetChannel, chan false 3, State.resetChannel, State.resetChannel] := rfl
  rw [this] at hm
  simp at hm
  tauto

theorem lastByte_region : lastByte.Region where
  checked h := by cases h
  masked h := by cases h
  mode_set h := by cases h
  addr_set h := by cases h
  count_set h := by cases h
  enabled c h hm := by
    rcases lastByte_channel h with rfl | rfl
    · exact ⟨rfl, by unfold State.regionInside; decide⟩
    · cases hm

theorem lastByte_inWidth : lastByte.InWidth where
  mem_wf := by decide
  mem_reset_wf := by decide
  mem_inside a x h := by cases h
  paddr_lt := by decide
  acc_le := by decide
  idx_le := by decide
  channels h c hc := by rcases lastByte_channel hc with rfl | rfl <;> decide
  session x hx := by cases hx; decide

theorem witness_WidthsKept : lastByte.Control ∧ lastByte.Region ∧ lastByte.InWidth
    ∧ ∃ t, step lastByte = .next t ∧ t.dsp.sess = none ∧ t.byteAt 0x30003 = some 0 :=
  ⟨⟨⟨by decide, rfl⟩, fun h => by cases h⟩, lastByte_region, lastByte_inWidth, _, rfl, by decide, by decide⟩

theorem witness_TraceGrowsTriggersCount : ∃ s t : State, step s = .next t ∧ t.triggers = s.triggers + 1 :=
  ⟨{ at' 0x07 2 with turns := [.sequencer] }, _, rfl, by decide⟩

theorem base_built : base.Built := ⟨by decide, rfl⟩

theorem base_ready : State.ReadyDsp base.dsp := ⟨rfl, rfl, rfl, rfl, rfl, rfl⟩

theorem witness_ResetRunReadiesDsp : ∃ s : State, s.Built ∧ s.seq = .idle ∧ s.dsp.st = .unknown
    ∧ s.turns = [.host [0x01], .sequencer, .sequencer, .sequencer, .dsp .presentReady, .sequencer, .sequencer,
      .sequencer, .sequencer] ++ [] :=
  ⟨{ State.resetWith c4 with
      turns := [.host [0x01], .sequencer, .sequencer, .sequencer, .dsp .presentReady, .sequencer, .sequencer,
        .sequencer, .sequencer] }, ⟨by decide, rfl⟩, rfl, rfl, rfl⟩

/-- One request answered and a second one presented and not yet complete: the first program has ended, the second has
not (R141). -/
theorem test_answered : State.answered [.dspReset] [.req 0x01 [], .rsp .ok] = true
    ∧ State.answered [.dspReset, .dspReadByte] [.req 0x01 [], .rsp .ok, .req 0x04 []] = false
    ∧ State.answered [.dspReset] [] = false ∧ State.answered [.dspWriteByte 7] [.req 0x05 [6], .rsp .ok] = false := by
  decide

theorem witness_VersionRunReadsMajorFirst : ∃ s : State, s.Built ∧ s.seq = .idle ∧ State.ReadyDsp s.dsp
    ∧ (0xFE : Byte).getLsbD 0 = false ∧ s.draws = [0, 0xFE, 4, 13, 0, 0] ++ []
    ∧ s.turns = [.host [0x02], .sequencer, .sequencer, .dsp .presentOutput, .sequencer, .sequencer,
      .dsp .presentOutput, .sequencer, .sequencer, .sequencer, .sequencer] ++ [] :=
  ⟨{ base with
      draws := [0, 0xFE, 4, 13, 0, 0]
      turns := [.host [0x02], .sequencer, .sequencer, .dsp .presentOutput, .sequencer, .sequencer,
        .dsp .presentOutput, .sequencer, .sequencer, .sequencer, .sequencer] }, base_built, rfl, base_ready, by decide,
    rfl, rfl⟩

/-- The longest region, at the top of memory. -/
theorem witness_PlaybackRunArmsThenStarts : ∃ (s : State) (count : Count), s.Built ∧ s.seq = .idle
    ∧ State.ReadyDsp s.dsp ∧ s.lock = .free ∧ 1 ≤ count.toNat ∧ count.toNat ≤ 65536
    ∧ 0xFF0000 + count.toNat ≤ 2 ^ s.cfg.paddrWidth ∧ 0xFF0000 % 65536 + count.toNat ≤ 65536
    ∧ s.draws = List.replicate 14 0 ++ [0, 0]
    ∧ s.turns = .host [0x07, 0xFF0000, count.toNat, (11025 : Word16).toNat] :: List.replicate 26 .sequencer ++ [] :=
  ⟨{ base with turns := .host [0x07, 0xFF0000, (65536 : Count).toNat, (11025 : Word16).toNat]
      :: List.replicate 26 .sequencer ++ [] }, 65536, base_built, rfl, base_ready, rfl, by decide, by decide, by decide,
    by decide, rfl, rfl⟩

theorem witness_SubmitRunCopiesBytes : ∃ (s : State) (src : List Byte), s.Built ∧ s.seq = .idle
    ∧ s.offset + src.length + 1 = s.cfg.cap
    ∧ s.turns = .host (0x08 :: src.length :: src.map BitVec.toNat)
      :: List.replicate (max 1 src.length + 4) .sequencer ++ [] :=
  ⟨{ base with turns := .host [0x08, 3, 0x10, 0x20, 0x30] :: List.replicate 7 .sequencer }, [0x10, 0x20, 0x30],
    base_built, rfl, by decide, by decide⟩

theorem witness_SubmitRunFiresTrigger : ∃ (s : State) (src : List Byte) (a : Nat), s.Built ∧ s.seq = .idle
    ∧ s.offset + a = s.cfg.cap ∧ 0 < a ∧ a ≤ src.length ∧ State.ReadyDsp s.dsp ∧ s.lock = .free
    ∧ s.draws = List.replicate 14 0 ++ [0, 0]
    ∧ s.turns = .host (0x08 :: src.length :: src.map BitVec.toNat) :: List.replicate (a + 31) .sequencer ++ [] :=
  ⟨{ base with offset := 3, turns := .host [0x08, 2, 0x40, 0x50] :: List.replicate 32 .sequencer }, [0x40, 0x50], 1,
    base_built, rfl, by decide, by decide, by decide, base_ready, rfl, rfl, by decide⟩

theorem witness_SessionPlaysRegion : ∃ (s : State) (bs : List Byte), s.dsp.st = .ready
    ∧ s.dsp.sess = some ⟨0, bs.length, 0⟩ ∧ bs ≠ [] ∧ s.channel? s.cfg.dmaCh = some (chan false 0)
    ∧ (chan false 0).mode = .singleM2D ∧ (chan false 0).xfer = 0
    ∧ (chan false 0).count = bs.length ∧ (chan false 0).addr + bs.length ≤ 2 ^ s.cfg.paddrWidth
    ∧ (∀ j x, bs[j]? = some x → s.byteAt ((chan false 0).addr + j) = some x)
    ∧ s.turns = List.replicate bs.length (.dsp .transfer) ++ [] := by
  refine ⟨{ playing 4 0 (chan false 0) with
    mem := [(0x30000, 1), (0x30001, 2), (0x30002, 3), (0x30003, 4)]
    turns := List.replicate 4 (.dsp .transfer) }, [1, 2, 3, 4], rfl, rfl, by decide, by decide, rfl, rfl, rfl, by decide,
    ?_, rfl⟩
  intro j x h
  rcases j with _ | _ | _ | _ | j <;> first | (cases h; decide) | cases h

end Sys2Proof.Tests
end

section
/-! PROOF. What every step keeps of the sequencer's control (R24, R91, R138), and what it appends to the trace (R52,
R57). -/

namespace Sys2Proof.Machine

/-! ### Every step is a turn -/

/-- `step_next` with the turn's own fields written out: what a turn proves of the state it is taken in holds of the
state before the step, whose other fields are the same by definition. -/
theorem step_turn {s t : State} (h : step s = .next t) :
    ∃ ts k, TurnStep { s with turns := ts, tick := k } t := by
  obtain ⟨u, hu, ht⟩ := step_next h
  exact ⟨u.turns, u.tick, hu ▸ ht⟩

/-! ### Control (R24, R91, R138) -/

namespace State

/-- The entry the sequencer stands at is a function of the parameters, `SEL` and `UPC`. -/
theorem current_congr {s t : State} (hc : t.cfg = s.cfg) (hs : t.sel = s.sel) (hu : t.upc = s.upc) :
    t.current = s.current := by
  unfold current
  rw [hc, hs, hu]

/-- A state with the parameters and the microcode of a built block is one. -/
theorem Built.congr {s t : State} (h : s.Built) (hc : t.cfg = s.cfg) (hu : t.ucode = s.ucode) : t.Built := by
  unfold Built
  rw [hc, hu]
  exact h

/-- At an entry of its listing, `UPC` is at most 31 (R24, R138). -/
theorem upc_le_of_current {s : State} (h : s.current.isSome = true) : s.upc ≤ 31 := by
  have hlt : s.upc < (Microcode.listing s.cfg s.sel).length := by
    obtain ⟨i, hi⟩ := Option.isSome_iff_exists.mp h
    exact (List.getElem?_eq_some_iff.mp hi).1
  have := Microcode.length_listing_le s.cfg s.sel
  omega

end State

/-- No turn writes the parameters or the microcode (R54, R91). -/
theorem TurnStep.same_block {s t : State} (h : TurnStep s t) : t.cfg = s.cfg ∧ t.ucode = s.ucode := by
  cases h with
  | idle | concurrent | reserved => exact ⟨rfl, rfl⟩
  | micro i _ hb _ _ hm =>
    obtain ⟨hc, hu, -⟩ := hm.control hb
    exact ⟨hc, hu⟩
  | accepted _ _ _ _ _ _ _ e => rw [e]; exact ⟨rfl, rfl⟩
  | dsp _ _ hd => rw [State.dspMove_frame hd]; exact ⟨rfl, rfl⟩
  | user m => rw [State.userMove_frame]; exact ⟨rfl, rfl⟩

/-- A micro-operation that goes on leaves the sequencer at an entry of its listing (R138). -/
theorem MicroStep.current_isSome {s t : State} {i : Instr} (h : MicroStep s i t) (hi : s.current = some i)
    (hb : s.seq = .busy) (ht : t.seq = .busy) : t.current.isSome = true := by
  rcases h.current_next hi hb ht with ⟨-, e, -⟩ | ⟨j, -, e, -⟩ | ⟨_, -, -, -, e⟩ | ⟨-, -, -, -, e⟩ <;> rw [e] <;> rfl

/-- Every turn of a block under control leaves it so. -/
theorem TurnStep.control {s t : State} (hc : s.Control) (h : TurnStep s t) : t.Control where
  built := hc.built.congr h.same_block.1 h.same_block.2
  at_entry ht := by
    cases h with
    | idle => exact hc.at_entry ht
    | micro i _ hb _ hf hm => exact hm.current_isSome (State.current_of_fetchInstr hc hf) hb ht
    | accepted sel _ _ _ hsel _ _ e =>
      obtain ⟨i, hi, -⟩ := Microcode.listing_head s.cfg hsel
      rw [e]
      exact Option.isSome_iff_exists.mpr ⟨i, hi⟩
    | concurrent | reserved => cases ht
    | dsp _ _ hd =>
      rw [State.dspMove_frame hd] at ht ⊢
      exact hc.at_entry ht
    | user m =>
      rw [State.userMove_frame] at ht ⊢
      exact hc.at_entry ht

/-- Whose turn it is has no part in a block's control. -/
theorem State.Control.with_turns {s : State} (h : s.Control) (ts : List Turn) (k : Nat) :
    ({ s with turns := ts, tick := k } : State).Control :=
  ⟨h.built, h.at_entry⟩

/-- Settles O46: each turn keeps the parameters, the microcode and the place at an entry of the listing, and no listing
has more than 32 entries. -/
theorem controlKept : Obligations.ControlKept := by
  intro s t hc h
  obtain ⟨ts, k, ht⟩ := step_turn h
  have hct : t.Control := ht.control (hc.with_turns ts k)
  exact ⟨hct, ht.same_block.1, ht.same_block.2, fun hb => State.upc_le_of_current (hct.at_entry hb)⟩

/-! ### The trace (R52, R57) -/

namespace State

/-- From `s` to `t` the trace has grown at its end, and `TRIGGERS` by the intents among the new events. -/
def TraceGrown (s t : State) : Prop :=
  ∃ es, t.trace = s.trace ++ es ∧ t.triggers = s.triggers + intents es

theorem TraceGrown.silent {s t : State} (h : t.trace = s.trace) (hn : t.triggers = s.triggers) : s.TraceGrown t :=
  ⟨[], by rw [h, List.append_nil], hn⟩

theorem TraceGrown.event {s t : State} (e : Event) (h : t.trace = s.trace ++ [e])
    (hn : t.triggers = s.triggers + intents [e]) : s.TraceGrown t :=
  ⟨[e], h, hn⟩

end State

/-- A micro-operation appends the event its rule names, a poll at its limit the fault's too, some none; `LOG INTENT`
alone counts a trigger (R177). -/
theorem MicroStep.traceGrown {s t : State} {i : Instr} (h : MicroStep s i t) : s.TraceGrown t := by
  cases h
  case bneEqual | bneRetry | chkCntPass | chkDmaPass | lockHold | chkSpacePass | copyNone | adv | bltBranch | bltFull
      | loadTrig | ofsClr =>
    exact .silent rfl rfl
  case logIntent => exact .event (.logIntent s.paddr s.cnt s.rate) rfl rfl
  case out | inp | pollWrDone | pollWrHold | pollWrFault | pollRdDone | pollRdHold | pollRdFault | delay =>
    simp [State.TraceGrown, State.intents]
  all_goals exact .event _ rfl rfl

/-- A move of the DSP's own appends the byte transferred, the sample starved of, or nothing (R275, R276). -/
theorem dspMove_traceGrown {s t : State} {m : DspMove} (h : s.dspMove m = .next t) : s.TraceGrown t := by
  cases m
  case transfer =>
    rcases State.dspTransfer_next h with rfl | ⟨r, -, -, -, -, -, rfl⟩
    · exact .silent rfl rfl
    · rw [State.delivered_frame]
      exact .event _ rfl rfl
  case starve =>
    rcases State.dspStarve_next h with rfl | ⟨-, rfl⟩
    · exact .silent rfl rfl
    · exact .event .underrun (by simp) (by simp [State.intents])
  all_goals
    simp only [State.dspMove, Host.Outcome.next.injEq] at h
    subst h
    repeat' split
    all_goals exact .silent rfl rfl

/-- Every turn's events are appended, and its intents counted. -/
theorem TurnStep.traceGrown {s t : State} (h : TurnStep s t) : s.TraceGrown t := by
  cases h with
  | idle => exact .silent rfl rfl
  | micro _ _ _ _ _ hm => exact hm.traceGrown
  | accepted sel ops _ _ _ _ _ e => rw [e]; exact .event (.req sel ops) rfl rfl
  | concurrent | reserved => exact .event _ rfl rfl
  | dsp _ _ hd => exact dspMove_traceGrown hd
  | user m => rw [State.userMove_frame]; exact .silent rfl rfl

/-- Settles O53: each turn appends its events and counts its intents. -/
theorem traceGrowsTriggersCount : Obligations.TraceGrowsTriggersCount := by
  intro s t h
  obtain ⟨ts, k, ht⟩ := step_turn h
  exact ht.traceGrown

end Sys2Proof.Machine
end

section
/-! PROOF. What every step keeps of the ranges of R30, R32, R48, R49, R55 and R70, part by part of `InWidth`: memory, the
counters, the channels, the session. -/

namespace Sys2Proof.Machine

/-! ### Memory (R66, R70) -/

/-- Of the micro-operations `COPY` alone writes memory, one byte of physical memory, and none reads it (R243). -/
theorem MicroStep.memory {s t : State} {i : Instr} (h : MicroStep s i t) :
    t.memReset = s.memReset ∧
    (t.mem = s.mem ∨ i = .copy ∧ copyAddress s < 2 ^ s.cfg.paddrWidth ∧
      ∃ x, t.mem = s.mem.write (copyAddress s) x) := by
  cases h
  case copyLast x _ _ ha _ | copyHold x _ _ ha => exact ⟨rfl, .inr ⟨rfl, ha, x, rfl⟩⟩
  all_goals simp

/-- A step of the DSP's own leaves the channels and what is known of memory, or is the delivery of a byte by the armed
channel `DMA_CH` (R275). -/
theorem dspMove_cases {s t : State} {m : DspMove} (h : s.dspMove m = .next t) :
    (t.channels = s.channels ∧ t.memReset = s.memReset) ∨
    ∃ r, s.channel? s.cfg.dmaCh = some r ∧ r.armed = true ∧ r.addr + r.xfer < 2 ^ s.cfg.paddrWidth ∧
      t = s.delivered s.cfg.dmaCh r := by
  cases m
  case transfer =>
    rcases State.dspTransfer_next h with rfl | ⟨r, hr, ha, -, -, hin, rfl⟩
    · exact .inl ⟨rfl, rfl⟩
    · exact .inr ⟨r, hr, ha, hin, rfl⟩
  case starve =>
    rcases State.dspStarve_next h with rfl | ⟨-, rfl⟩
    · exact .inl ⟨rfl, rfl⟩
    · exact .inl ⟨by simp, by simp⟩
  all_goals
    simp only [State.dspMove, Host.Outcome.next.injEq] at h
    subst h
    left
    repeat' split
    all_goals exact ⟨rfl, rfl⟩

namespace State

/-- Memory in its canonical form, with every byte it holds at an address below `2^w` (R70). -/
structure MemoryInside (w : Nat) (s : State) : Prop where
  mem_wf : s.mem.wf
  mem_reset_wf : s.memReset.wf
  inside : ∀ a x, s.byteAt a = some x → a < 2 ^ w

theorem MemoryInside.congr {w : Nat} {s t : State} (h : s.MemoryInside w) (hm : t.mem = s.mem)
    (hr : t.memReset = s.memReset) : t.MemoryInside w where
  mem_wf := hm ▸ h.mem_wf
  mem_reset_wf := hr ▸ h.mem_reset_wf
  inside a x ha := h.inside a x (by rwa [byteAt_congr hm hr] at ha)

theorem MemoryInside.memWrite {w : Nat} {s : State} (h : s.MemoryInside w) {a : Nat} (ha : a < 2 ^ w) (x : Byte) :
    (s.memWrite a x).MemoryInside w where
  mem_wf := Memory.write_wf _ _ _ h.mem_wf
  mem_reset_wf := h.mem_reset_wf
  inside c y hc := by
    by_cases e : c = a
    · rw [e]; exact ha
    · refine h.inside c y ?_
      simpa [byteAt, Memory.read_write_other _ _ e] using hc

theorem MemoryInside.memRead {w : Nat} {s : State} (h : s.MemoryInside w) {a : Nat} (ha : a < 2 ^ w) :
    (s.memRead a).2.MemoryInside w where
  mem_wf := by simpa using h.mem_wf
  mem_reset_wf := by
    cases hb : s.byteAt a with
    | some x => rw [memRead_held hb]; exact h.mem_reset_wf
    | none =>
      rw [memRead_unheld hb, drawReset_frame]
      exact Memory.write_wf _ _ _ h.mem_reset_wf
  inside c y hc := by
    by_cases e : c = a
    · rw [e]; exact ha
    · exact h.inside c y (by rwa [byteAt_memRead_other s e] at hc)

end State

/-- Every turn keeps memory canonical and inside `2^PADDR_WIDTH`: it writes and reads nowhere else. -/
theorem TurnStep.memoryInside {s t : State} (h : TurnStep s t) (hm : s.MemoryInside s.cfg.paddrWidth) :
    t.MemoryInside s.cfg.paddrWidth := by
  cases h with
  | idle | concurrent | reserved => exact hm.congr rfl rfl
  | micro i _ _ _ _ hs =>
    obtain ⟨hr, hw | ⟨-, ha, x, hw⟩⟩ := hs.memory
    · exact hm.congr hw hr
    · exact (hm.memWrite ha x).congr hw hr
  | accepted _ _ _ _ _ _ _ e => rw [e]; exact hm.congr rfl rfl
  | dsp _ _ hd =>
    rcases dspMove_cases hd with ⟨-, hr⟩ | ⟨r, -, -, ha, rfl⟩
    · exact hm.congr (by rw [State.dspMove_frame hd]) hr
    · exact (hm.memRead ha).congr (by simp [State.delivered]) (by simp [State.delivered])
  | user m => rw [State.userMove_frame]; exact hm.congr rfl rfl

/-! ### The address and the counters (R30, R32) -/

/-- Of the micro-operations `LOAD_TRIG` alone writes `PADDR` (R246). -/
theorem MicroStep.paddr {s t : State} {i : Instr} (h : MicroStep s i t) :
    t.paddr = s.paddr ∨ t.paddr = s.cfg.bufPaddr := by
  cases h
  case loadTrig => exact .inr rfl
  all_goals simp

/-- Of the micro-operations `CHK_SPACE` alone writes `ACC`, which it starts a copy with (R242), and `COPY` alone counts
the bytes copied (R243). -/
theorem MicroStep.counters {s t : State} {i : Instr} (h : MicroStep s i t) :
    (t.acc = s.acc ∧ (t.idx = s.idx ∨ s.idx < s.acc ∧ t.idx = s.idx + 1)) ∨ (t.acc ≤ s.cfg.cap ∧ t.idx = 0) := by
  cases h
  case chkSpacePass => exact .inr ⟨(Nat.min_le_right _ _).trans (Nat.sub_le _ _), rfl⟩
  case copyLast hlt _ _ _ | copyHold hlt _ _ => exact .inl ⟨rfl, .inr ⟨hlt, rfl⟩⟩
  all_goals simp

/-- In a built block the staging buffer starts inside physical memory (R8). -/
theorem State.Built.bufPaddr_lt {s : State} (h : s.Built) : s.cfg.bufPaddr < 2 ^ s.cfg.paddrWidth := by
  have hok := h.1
  simp only [Config.ok, Bool.and_eq_true, decide_eq_true_eq] at hok
  omega

/-- Every turn of a built block keeps `PADDR` below `2^PADDR_WIDTH`. -/
theorem TurnStep.paddr_lt {s t : State} (h : TurnStep s t) (hb : s.Built) (hp : s.paddr < 2 ^ s.cfg.paddrWidth) :
    t.paddr < 2 ^ s.cfg.paddrWidth := by
  cases h with
  | idle | concurrent | reserved => exact hp
  | micro _ _ _ _ _ hm =>
    rcases hm.paddr with e | e <;> rw [e]
    · exact hp
    · exact hb.bufPaddr_lt
  | accepted _ _ _ _ _ ha =>
    rcases ha with e | hlt
    · rw [e]; exact hp
    · exact hlt
  | dsp _ _ hd => rw [State.dspMove_frame hd]; exact hp
  | user m => rw [State.userMove_frame]; exact hp

/-- Every turn keeps `ACC` at most `CAP` and `I` at most `ACC`. -/
theorem TurnStep.counters {s t : State} (h : TurnStep s t) (ha : s.acc ≤ s.cfg.cap) (hi : s.idx ≤ s.acc) :
    t.acc ≤ s.cfg.cap ∧ t.idx ≤ t.acc := by
  cases h with
  | idle | concurrent | reserved => exact ⟨ha, hi⟩
  | micro _ _ _ _ _ hm =>
    rcases hm.counters with ⟨e, e' | ⟨hlt, e'⟩⟩ | ⟨hle, e'⟩ <;> omega
  | accepted _ _ _ _ _ _ _ e => rw [e]; exact ⟨ha, hi⟩
  | dsp _ _ hd => rw [State.dspMove_frame hd]; exact ⟨ha, hi⟩
  | user m => rw [State.userMove_frame]; exact ⟨ha, hi⟩

/-! ### The channels (R48, R49) -/

/-- A micro-operation leaves the channels, or replaces channel `CH` by one whose mask, mode, address or count it has
set (R205 to R210). -/
theorem MicroStep.channels {s t : State} {i : Instr} (h : MicroStep s i t) :
    t.channels = s.channels ∨ ∃ c c', s.channel? s.ch = some c ∧ t.channels = (s.setChannel s.ch c').channels ∧
      ((c'.addr = c.addr ∧ c'.count = c.count ∧ c'.xfer = c.xfer) ∨
        (i = .dmaSetAddr ∧ c' = { c with addr := s.paddr, xfer := 0 }) ∨
        (i = .dmaSetCount ∧ c' = { c with count := s.cnt.toNat, xfer := 0 })) := by
  cases h
  case disable c _ hc | setMode c _ hc | enable c _ hc => exact .inr ⟨c, _, hc, rfl, .inl ⟨rfl, rfl, rfl⟩⟩
  case setAddr c _ _ hc => exact .inr ⟨c, _, hc, rfl, .inr (.inl ⟨rfl, rfl⟩)⟩
  case setCount c _ _ hc => exact .inr ⟨c, _, hc, rfl, .inr (.inr ⟨rfl, rfl⟩)⟩
  all_goals simp

/-- The ranges of a channel's registers, as `InWidth` writes them, are its type (R48, R49). -/
theorem Channel.typed_iff {cfg : Config} {c : Channel} : c.typed cfg = true ↔
    c.addr < 2 ^ cfg.paddrWidth ∧ 1 ≤ c.count ∧ c.count ≤ 65536 ∧ c.xfer ≤ c.count := by
  simp [Channel.typed, and_assoc]

/-- An armed channel has a byte left to move, so it keeps its type when it moves one (R275). -/
theorem Channel.typed_moved {cfg : Config} {c : Channel} (h : c.typed cfg = true) (ha : c.armed = true) :
    c.moved.typed cfg = true := by
  rw [typed_iff] at h ⊢
  simp only [armed, Bool.and_eq_true, decide_eq_true_eq] at ha
  obtain ⟨haddr, hlo, hhi, -⟩ := h
  exact ⟨haddr, hlo, hhi, ha.2⟩

namespace State

/-- Every channel's registers hold values of their types (R48, R49). -/
def ChannelsTyped (cfg : Config) (s : State) : Prop :=
  ∀ ch c, s.channel? ch = some c → c.typed cfg = true

theorem ChannelsTyped.congr {cfg : Config} {s t : State} (h : s.ChannelsTyped cfg) (hc : t.channels = s.channels) :
    t.ChannelsTyped cfg := fun ch c hch => h ch c (by rwa [channel?_congr hc] at hch)

theorem ChannelsTyped.setChannel {cfg : Config} {s : State} (h : s.ChannelsTyped cfg) {c : Channel}
    (hc : c.typed cfg = true) (ch : ChanNo) : (s.setChannel ch c).ChannelsTyped cfg := by
  intro ch' c' h'
  rw [channel?_setChannel] at h'
  split at h'
  · cases h'; exact hc
  · exact h ch' c' h'

end State

/-- A micro-operation of a block under control whose region has passed its check leaves every channel typed: the address
and the count it sets are the checked ones. -/
theorem MicroStep.channelsTyped {s t : State} {i : Instr} (h : MicroStep s i t) (hi : s.current = some i)
    (hb : s.seq = .busy) (hr : s.Region) (hp : s.paddr < 2 ^ s.cfg.paddrWidth) (hc : s.ChannelsTyped s.cfg) :
    t.ChannelsTyped s.cfg := by
  rcases h.channels with e | ⟨c, c', hch, e, hc'⟩
  · exact hc.congr e
  · refine (hc.setChannel ?_ s.ch).congr e
    have hct := hc s.ch c hch
    rw [Channel.typed_iff] at hct ⊢
    obtain ⟨haddr, hlo, hhi, hx⟩ := hct
    rcases hc' with ⟨ea, ec, ex⟩ | ⟨rfl, rfl⟩ | ⟨rfl, rfl⟩
    · rw [ea, ec, ex]
      exact ⟨haddr, hlo, hhi, hx⟩
    · exact ⟨hp, hlo, hhi, Nat.zero_le _⟩
    · obtain ⟨-, hlo', hhi', -⟩ := hr.checked hb (by rw [hi]; rfl)
      exact ⟨haddr, hlo', hhi', Nat.zero_le _⟩

/-- Every turn of a block under control whose region has passed its check leaves every channel typed. -/
theorem TurnStep.channelsTyped {s t : State} (h : TurnStep s t) (hc : s.Control) (hr : s.Region)
    (hp : s.paddr < 2 ^ s.cfg.paddrWidth) (ht : s.ChannelsTyped s.cfg) : t.ChannelsTyped s.cfg := by
  cases h with
  | idle | concurrent | reserved => exact ht.congr rfl
  | micro _ _ hb _ hf hm => exact hm.channelsTyped (State.current_of_fetchInstr hc hf) hb hr hp ht
  | accepted _ _ _ _ _ _ _ e => rw [e]; exact ht.congr rfl
  | dsp _ _ hd =>
    rcases dspMove_cases hd with ⟨e, -⟩ | ⟨r, hch, ha, -, rfl⟩
    · exact ht.congr e
    · refine (ht.setChannel (Channel.typed_moved (ht _ r hch) ha) s.cfg.dmaCh).congr ?_
      rw [State.delivered_frame]
  | user m =>
    rcases State.userMove_cases s m with e | ⟨-, -, e⟩ | ⟨-, -, e⟩ | ⟨ff, ch, c, -, -, -, hct, e⟩ <;> rw [e]
    · exact ht
    · exact ht.congr rfl
    · exact ht.congr rfl
    · exact (ht.setChannel hct ch).congr rfl

/-! ### The session (R55) -/

/-- A DSP's session, if it has one, holds values of its type. -/
def Dsp.SessionTyped (d : Dsp) : Prop := ∀ x, d.sess = some x → x.typed = true

theorem Dsp.SessionTyped.congr {d e : Dsp} (h : d.SessionTyped) (he : e.sess = d.sess) : e.SessionTyped :=
  fun x hx => h x (he ▸ hx)

theorem Dsp.SessionTyped.of_none {d : Dsp} (h : d.sess = none) : d.SessionTyped := fun x hx => by
  rw [h] at hx
  cases hx

/-- A session that takes one of the samples it has left keeps its type (R277). -/
theorem Session.typed_next {x y : Session} (h : x.typed = true) (hl : x.done < x.len) (hy : x.next = some y) :
    y.typed = true := by
  unfold Session.next at hy
  split at hy
  · cases hy
  · cases hy
    simp only [Session.typed, Bool.and_eq_true, decide_eq_true_eq] at h ⊢
    omega

namespace State

theorem sessionTyped_stepSession {s : State} (h : s.dsp.SessionTyped) : s.stepSession.dsp.SessionTyped := by
  unfold stepSession
  split
  · rename_i x hx
    split
    · rename_i hl
      intro y hy
      exact Session.typed_next (h x hx) hl hy
    · exact h
  · exact h

/-- A command starts a session of 1 to 65536 bytes with none done (R272). -/
theorem sessionTyped_dspStart (s : State) (m : Byte) (c : Word16) : (s.dspStart m c).dsp.SessionTyped := by
  intro x hx
  cases hx
  have := c.isLt
  simp only [Session.typed, Bool.and_eq_true, decide_eq_true_eq]
  omega

/-- The command parser starts a session or leaves the one there is (R270 to R273). -/
theorem dspParse_sess (s : State) (x : Byte) :
    (s.dspParse x).dsp.sess = s.dsp.sess ∨ ∃ m c, s.dspParse x = s.dspStart m c := by
  unfold dspParse
  split
  · left
    repeat' split
    all_goals simp [dspVersion]
  · split
    · left
      split <;> rfl
    · split
      · split
        · exact .inr ⟨_, _, rfl⟩
        · exact .inl rfl
      · exact .inl rfl

theorem sessionTyped_dspParse {s : State} (h : s.dsp.SessionTyped) (x : Byte) : (s.dspParse x).dsp.SessionTyped := by
  rcases s.dspParse_sess x with e | ⟨m, c, e⟩
  · exact h.congr e
  · rw [e]
    exact s.sessionTyped_dspStart m c

theorem sessionTyped_writeReset {s : State} (h : s.dsp.SessionTyped) (x : Byte) :
    (s.writeReset x).dsp.SessionTyped := by
  unfold writeReset
  split
  · exact .of_none rfl
  · split <;> exact h.congr rfl

theorem sessionTyped_writeWdata {s : State} (h : s.dsp.SessionTyped) (x : Byte) :
    (s.writeWdata x).dsp.SessionTyped := by
  simp only [writeWdata]
  split
  · exact sessionTyped_dspParse (h.congr (by simp)) x
  · exact h.congr rfl

theorem sessionTyped_portWrite {s : State} (h : s.dsp.SessionTyped) (r : OutReg) (x : Byte) :
    (s.portWrite r x).dsp.SessionTyped := by
  cases r with
  | reset => exact sessionTyped_writeReset h x
  | wdata => exact sessionTyped_writeWdata h x

@[simp] theorem readRdata_sess (s : State) : s.readRdata.2.dsp.sess = s.dsp.sess := by
  unfold readRdata
  split
  · simp
  · split <;> simp

@[simp] theorem dspDelay_sess (s : State) (d : Nat) : (s.dspDelay d).dsp.sess = s.dsp.sess := by
  unfold dspDelay
  split <;> rfl

end State

/-- A micro-operation reaches the DSP's session by an `OUT` alone. -/
theorem MicroStep.sessionTyped {s t : State} {i : Instr} (h : MicroStep s i t) (hd : s.dsp.SessionTyped) :
    t.dsp.SessionTyped := by
  cases h
  case out r src => exact State.sessionTyped_portWrite hd r _
  all_goals exact hd.congr (by simp)

/-- A step of the DSP's own takes a sample of its session, drops it, or sets it to a typed one (R274 to R276). -/
theorem dspMove_sessionTyped {s t : State} {m : DspMove} (h : s.dspMove m = .next t) (hd : s.dsp.SessionTyped) :
    t.dsp.SessionTyped := by
  cases m
  case transfer =>
    rcases State.dspTransfer_next h with rfl | ⟨r, -, -, -, -, -, rfl⟩
    · exact hd
    · exact State.sessionTyped_stepSession (hd.congr (by simp))
  case starve =>
    rcases State.dspStarve_next h with rfl | ⟨-, rfl⟩
    · exact hd
    · exact State.sessionTyped_stepSession hd
  case anything avail latch busy out cmd rate sess =>
    cases h
    split
    · rename_i hok
      intro x hx
      cases hx
      exact hok.2
    · exact hd
  case presentReady =>
    cases h
    split
    · exact .of_none rfl
    · exact hd
  all_goals
    simp only [State.dspMove, Host.Outcome.next.injEq] at h
    subst h
    repeat' split
    all_goals exact hd.congr rfl

/-- Every turn leaves the DSP's session typed. -/
theorem TurnStep.sessionTyped {s t : State} (h : TurnStep s t) (hd : s.dsp.SessionTyped) : t.dsp.SessionTyped := by
  cases h with
  | idle | concurrent | reserved => exact hd
  | micro _ _ _ _ _ hm => exact hm.sessionTyped hd
  | accepted _ _ _ _ _ _ _ e => rw [e]; exact hd
  | dsp _ _ hm => exact dspMove_sessionTyped hm hd
  | user m => rw [State.userMove_frame]; exact hd

/-! ### All ranges together -/

/-- Every turn of a block under control whose region has passed its check keeps the ranges. -/
theorem TurnStep.inWidth {s t : State} (h : TurnStep s t) (hc : s.Control) (hr : s.Region) (hw : s.InWidth) :
    t.InWidth := by
  have hcfg := h.same_block.1
  have hmem := h.memoryInside ⟨hw.mem_wf, hw.mem_reset_wf, hw.mem_inside⟩
  have hcount := h.counters hw.acc_le hw.idx_le
  have hch := h.channelsTyped hc hr hw.paddr_lt fun ch c hc => Channel.typed_iff.mpr (hw.channels ch c hc)
  exact
    { mem_wf := hmem.mem_wf
      mem_reset_wf := hmem.mem_reset_wf
      mem_inside := by rw [hcfg]; exact hmem.inside
      paddr_lt := by rw [hcfg]; exact h.paddr_lt hc.built hw.paddr_lt
      acc_le := by rw [hcfg]; exact hcount.1
      idx_le := hcount.2
      channels := by rw [hcfg]; exact fun ch c hc => Channel.typed_iff.mp (hch ch c hc)
      session := h.sessionTyped hw.session }

namespace State

/-- Whose turn it is has no part in the region's invariant. -/
theorem Region.with_turns {s : State} (h : s.Region) (ts : List Turn) (k : Nat) :
    ({ s with turns := ts, tick := k } : State).Region :=
  ⟨h.checked, h.masked, h.mode_set, h.addr_set, h.count_set, h.enabled⟩

/-- Whose turn it is has no part in the ranges. -/
theorem InWidth.with_turns {s : State} (h : s.InWidth) (ts : List Turn) (k : Nat) :
    ({ s with turns := ts, tick := k } : State).InWidth :=
  ⟨h.mem_wf, h.mem_reset_wf, h.mem_inside, h.paddr_lt, h.acc_le, h.idx_le, h.channels, h.session⟩

end State

/-- Settles O52, range by range over the turns of a step. -/
theorem widthsKept : Obligations.WidthsKept := by
  intro s t hc hr hw h
  obtain ⟨ts, k, ht⟩ := step_turn h
  exact ht.inWidth (hc.with_turns ts k) (hr.with_turns ts k) (hw.with_turns ts k)

end Sys2Proof.Machine
end

section
/-! PROOF. Addresses and memory (spec/20_memory.md): direction and address select one DSP register (R38, R71), and of
all that can step `COPY` alone writes memory, one byte, inside `BUF` in a safe state (R70, R72, R81, R87). -/

/-! ### The registers of the DSP (R38, R71) -/

namespace Sys2Proof.Config

/-- Among registers at addresses that all differ, an address selects the register it is the address of. -/
theorem find_address {c : Config} {rs : List Machine.DspReg} (hd : (rs.map c.address).Nodup) {r : Machine.DspReg}
    (hr : r ∈ rs) : (rs.find? fun q => c.address q == c.address r) = some r := by
  have hsome : (rs.find? fun q => c.address q == c.address r).isSome = true :=
    List.find?_isSome.mpr ⟨r, hr, beq_self_eq_true _⟩
  obtain ⟨q, hq⟩ := Option.isSome_iff_exists.mp hsome
  have hqr : c.address q = c.address r := by simpa using List.find?_some hq
  rw [hq, List.inj_on_of_nodup_map hd (List.mem_of_find?_eq_some hq) hr hqr]

/-- R8: in an admitted configuration registers of one direction have addresses that differ. -/
theorem address_nodup {c : Config} (h : c.ok = true) :
    ([.rdata, .wstatus, .rstatus].map c.address).Nodup ∧ ([.reset, .wdata].map c.address).Nodup := by
  simp only [ok, Bool.and_eq_true, bne_iff_ne] at h
  simp [h]

end Sys2Proof.Config

namespace Sys2Proof.Machine

/-- Settles O4: the registers of one direction have addresses that differ, so the address selects among them. -/
theorem addressSelectsRegister : Obligations.AddressSelectsRegister := by
  intro c hc
  obtain ⟨hread, hwrite⟩ := Config.address_nodup hc
  exact ⟨fun _ hr => Config.find_address hread hr, fun _ hr => Config.find_address hwrite hr⟩

/-! ### Who writes memory (R70, R72, R81, R87) -/

namespace State

/-- From `s` to `t` `COPY` has written its byte: one was left to copy, and it went to `BUF_PADDR + OFFSET + I` (R243). -/
structure Copied (s t : State) : Prop where
  busy : s.seq = .busy
  fetched : s.fetchInstr = some .copy
  left : s.idx < s.acc
  written : ∃ x, t.mem = s.mem.write (copyAddress s) x
  reset_kept : t.memReset = s.memReset

/-- From `s` to `t` nothing has written memory, and every byte it holds reads as before. -/
structure MemoryHeld (s t : State) : Prop where
  mem : t.mem = s.mem
  held : ∀ a x, s.byteAt a = some x → t.byteAt a = some x

theorem MemoryHeld.of_eq {s t : State} (hm : t.mem = s.mem) (hr : t.memReset = s.memReset) : s.MemoryHeld t :=
  ⟨hm, fun a x h => by rwa [byteAt_congr hm hr]⟩

/-- `COPY` leaves the byte at every other address. -/
theorem Copied.other {s t : State} (h : s.Copied t) {a : Nat} (ha : a ≠ copyAddress s) :
    t.mem.read a = s.mem.read a ∧ t.byteAt a = s.byteAt a := by
  obtain ⟨x, hx⟩ := h.written
  have hread : t.mem.read a = s.mem.read a := by rw [hx, Memory.read_write_other _ _ ha]
  exact ⟨hread, by unfold byteAt; rw [hread, h.reset_kept]⟩

/-- Where a byte of memory has changed, `COPY` has written it. -/
theorem Copied.address_eq {s t : State} (h : s.Copied t) {a : Nat}
    (hch : t.mem.read a ≠ s.mem.read a ∨ ∃ x, s.byteAt a = some x ∧ t.byteAt a ≠ some x) : a = copyAddress s := by
  by_contra ha
  obtain ⟨hread, hbyte⟩ := h.other ha
  rcases hch with hne | ⟨x, hx, hne⟩
  · exact hne hread
  · exact hne (hbyte.trans hx)

/-- At its `COPY` a safe state has room in `BUF` for the bytes the copy was granted (R242, R249). -/
theorem Staging.copy_room {s : State} (h : s.Staging) (hc : s.Control) (hb : s.seq = .busy)
    (hf : s.fetchInstr = some .copy) : s.offset + s.acc ≤ s.cfg.cap := by
  have hp := (current_placed (current_of_fetchInstr hc hf)).1
  simp only [standsAt, Bool.and_eq_true, beq_iff_eq] at hp
  obtain ⟨hsel, hupc⟩ := hp
  obtain ⟨-, -, hroom, -⟩ := h.submit hb hsel
  exact (hroom hupc).2.1

end State

/-- A `COPY` that has written memory had a byte left to copy. -/
theorem MicroStep.copy_left {s t : State} (h : MicroStep s .copy t) : t.mem = s.mem ∨ s.idx < s.acc := by
  cases h with
  | copyLast _ hlt | copyHold _ hlt => exact .inr hlt
  | copyNone | notLocked | notCleared => exact .inl rfl

/-- A turn leaves every byte memory holds, or is a `COPY` that has written its byte. -/
theorem TurnStep.memory {s t : State} (h : TurnStep s t) : s.MemoryHeld t ∨ s.Copied t := by
  cases h with
  | idle | concurrent | reserved => exact .inl (.of_eq rfl rfl)
  | micro i _ hb _ hf hm =>
    obtain ⟨hr, hw | ⟨rfl, -, hw⟩⟩ := hm.memory
    · exact .inl (.of_eq hw hr)
    · rcases hm.copy_left with e | hlt
      · exact .inl (.of_eq e hr)
      · exact .inr ⟨hb, hf, hlt, hw, hr⟩
  | accepted _ _ _ _ _ _ _ e => rw [e]; exact .inl (.of_eq rfl rfl)
  | dsp _ _ hd => exact .inl ⟨by rw [State.dspMove_frame hd], fun _ _ => State.dspMove_held hd⟩
  | user m => rw [State.userMove_frame]; exact .inl (.of_eq rfl rfl)

/-- Every step leaves every byte memory holds, or is a `COPY` that has written its byte. -/
theorem step_memory {s t : State} (h : step s = .next t) : s.MemoryHeld t ∨ s.Copied t := by
  obtain ⟨ts, k, ht⟩ := step_turn h
  exact ht.memory.imp (fun hh => ⟨hh.mem, hh.held⟩)
    fun hh => ⟨hh.busy, hh.fetched, hh.left, hh.written, hh.reset_kept⟩

/-- Settles O54: a step that changes a byte of memory is a `COPY` with a byte left to copy, and a safe state has room
in `BUF` for it. -/
theorem onlyCopyWritesMemory : Obligations.OnlyCopyWritesMemory := by
  intro s t h
  rcases step_memory h with hh | hw
  · constructor
    · rintro a (hne | ⟨x, hx, hne⟩)
      · exact absurd (by rw [hh.mem]) hne
      · exact absurd (hh.held a x hx) hne
    · intro _ _ a hne
      exact absurd (by rw [hh.mem]) hne
  · refine ⟨fun a hch => ⟨hw.busy, hw.fetched, hw.address_eq hch⟩, fun hc hs a hne => ?_⟩
    have ha : a = s.cfg.bufPaddr + s.offset + s.idx := hw.address_eq (.inl hne)
    have hroom := hs.copy_room hc hw.busy hw.fetched
    have hleft := hw.left
    omega

end Sys2Proof.Machine
end

section
/-! PROOF. The encodings (spec/30_encoding.md): each operand parser read as an equivalence, from which both round trips
of R101, R110 and R112 follow (`decode_encode`, `encode_of_decodeMicro` and its like), and the words written out from the tables. -/

namespace Sys2Proof

/-! ### Enumerated fields, read both ways -/

theorem OutReg.ofCode_eq_some {w : Nat} {r : OutReg} : OutReg.ofCode w = some r ↔ r.code = w := by
  refine ⟨fun h => ?_, fun h => h ▸ ofCode_code r⟩
  unfold ofCode at h
  split at h <;> cases h <;> rfl

theorem InDest.ofCode_eq_some {w : Nat} {d : InDest} : InDest.ofCode w = some d ↔ d.code = w := by
  refine ⟨fun h => ?_, fun h => h ▸ ofCode_code d⟩
  unfold ofCode at h
  split at h <;> cases h <;> rfl

theorem EndSource.ofCode_eq_some {w : Nat} {e : EndSource} : EndSource.ofCode w = some e ↔ e.code = w := by
  refine ⟨fun h => ?_, fun h => h ▸ ofCode_code e⟩
  unfold ofCode at h
  split at h <;> cases h <;> rfl

theorem LogKind.ofCode_eq_some {w : Nat} {k : LogKind} : LogKind.ofCode w = some k ↔ k.code = w := by
  refine ⟨fun h => ?_, fun h => h ▸ ofCode_code k⟩
  unfold ofCode at h
  split at h <;> cases h <;> rfl

/-- A literal is a word that fits a byte; the named sources are the words just above. -/
theorem ByteSource.ofCode_eq_some {w : Nat} {x : ByteSource} : ByteSource.ofCode w = some x ↔ x.code = w := by
  refine ⟨fun h => ?_, fun h => h ▸ ofCode_code x⟩
  unfold ofCode at h
  split at h
  · cases h
    exact toNat_of_field ‹_›
  · split at h <;> cases h <;> rfl

/-! ### Operands: a code's parser reads exactly the operand words of the code's instructions -/

theorem orBadOperands_eq_ok {c : Byte} {o : Option Instr} {i : Instr} : orBadOperands c o = .ok i ↔ o = some i := by
  cases o <;> simp [orBadOperands]

theorem noOperands_eq_some {i j : Instr} {ws : List Nat} : noOperands j ws = some i ↔ j = i ∧ [] = ws := by
  cases ws <;> simp [noOperands]

theorem programOutputOperands_eq_some {ws : List Nat} {i : Instr} :
    programOutputOperands ws = some i ↔ ∃ rate count, .dspProgramOutput rate count = i ∧ i.operands = ws := by
  constructor
  · intro h
    unfold programOutputOperands at h
    split at h <;> [split at h; skip] <;> cases h
    rename_i rate count hr hc
    exact ⟨rate, count, rfl, by rw [Instr.operands, toNat_of_field hr, toNat_of_field hc]⟩
  · rintro ⟨rate, count, rfl, rfl⟩
    simp [programOutputOperands, Instr.operands]

theorem writeByteOperands_eq_some {ws : List Nat} {i : Instr} :
    writeByteOperands ws = some i ↔ ∃ b, .dspWriteByte b = i ∧ i.operands = ws := by
  constructor
  · intro h
    unfold writeByteOperands at h
    split at h
    · obtain ⟨b, hb, rfl⟩ := Option.map_eq_some_iff.mp h
      exact ⟨b, rfl, by rw [Instr.operands, toNat_of_field hb]⟩
    · cases h
  · rintro ⟨b, rfl, rfl⟩
    simp [writeByteOperands, Instr.operands]

theorem configureOperands_eq_some {ws : List Nat} {i : Instr} :
    configureOperands ws = some i ↔ ∃ ch paddr count, .dmaConfigure ch paddr count = i ∧ i.operands = ws := by
  constructor
  · intro h
    unfold configureOperands at h
    split at h <;> [split at h; skip] <;> cases h
    rename_i ch count hh hc
    exact ⟨ch, _, count, rfl, by rw [Instr.operands, toNat_of_field hh, toNat_of_field hc]⟩
  · rintro ⟨ch, paddr, count, rfl, rfl⟩
    simp [configureOperands, Instr.operands]

theorem startOperands_eq_some {ws : List Nat} {i : Instr} :
    startOperands ws = some i ↔ ∃ paddr count rate, .startPlayback paddr count rate = i ∧ i.operands = ws := by
  constructor
  · intro h
    unfold startOperands at h
    split at h <;> [split at h; skip] <;> cases h
    rename_i count rate hc hr
    exact ⟨_, count, rate, rfl, by rw [Instr.operands, toNat_of_field hc, toNat_of_field hr]⟩
  · rintro ⟨paddr, count, rate, rfl, rfl⟩
    simp [startOperands, Instr.operands]

/-- `SRC` is exactly `K` bytes (R109): the one operand whose type depends on another's value. -/
theorem submitOperands_eq_some {ws : List Nat} {i : Instr} :
    submitOperands ws = some i ↔ ∃ k src, src.length = k ∧ .submit k src = i ∧ i.operands = ws := by
  constructor
  · intro h
    unfold submitOperands at h
    split at h <;> [split at h <;> [split at h; skip]; skip] <;> cases h
    rename_i src hs hk
    exact ⟨_, src, hk, rfl, by rw [Instr.operands, map_toNat_of_byteList hs]⟩
  · rintro ⟨k, src, rfl, rfl, rfl⟩
    simp [submitOperands, Instr.operands]

theorem outFields_eq_some {ws : List Nat} {i : Instr} :
    outFields ws = some i ↔ ∃ r src, .out r src = i ∧ i.operands = ws := by
  constructor
  · intro h
    unfold outFields at h
    split at h <;> [split at h; skip] <;> cases h
    rename_i r src hr hs
    exact ⟨r, src, rfl, by rw [Instr.operands, OutReg.ofCode_eq_some.mp hr, ByteSource.ofCode_eq_some.mp hs]⟩
  · rintro ⟨r, src, rfl, rfl⟩
    simp [outFields, Instr.operands]

theorem inFields_eq_some {ws : List Nat} {i : Instr} :
    inFields ws = some i ↔ ∃ d, .inp d = i ∧ i.operands = ws := by
  constructor
  · intro h
    unfold inFields at h
    split at h
    · obtain ⟨d, hd, rfl⟩ := Option.map_eq_some_iff.mp h
      exact ⟨d, rfl, by rw [Instr.operands, InDest.ofCode_eq_some.mp hd]⟩
    · cases h
  · rintro ⟨d, rfl, rfl⟩
    simp [inFields, Instr.operands]

theorem delayFields_eq_some {ws : List Nat} {i : Instr} :
    delayFields ws = some i ↔ ∃ d, .delay d = i ∧ i.operands = ws := by
  constructor
  · intro h
    unfold delayFields at h
    split at h <;> cases h
    exact ⟨_, rfl, rfl⟩
  · rintro ⟨d, rfl, rfl⟩
    rfl

theorem endFields_eq_some {ws : List Nat} {i : Instr} :
    endFields ws = some i ↔ ∃ src, .endOp src = i ∧ i.operands = ws := by
  constructor
  · intro h
    unfold endFields at h
    split at h
    · obtain ⟨src, hs, rfl⟩ := Option.map_eq_some_iff.mp h
      exact ⟨src, rfl, by rw [Instr.operands, EndSource.ofCode_eq_some.mp hs]⟩
    · cases h
  · rintro ⟨src, rfl, rfl⟩
    simp [endFields, Instr.operands]

theorem bneFields_eq_some {ws : List Nat} {i : Instr} :
    bneFields ws = some i ↔ ∃ imm t, .bneV imm t = i ∧ i.operands = ws := by
  constructor
  · intro h
    unfold bneFields at h
    split at h
    · obtain ⟨imm, hi, rfl⟩ := Option.map_eq_some_iff.mp h
      exact ⟨imm, _, rfl, by rw [Instr.operands, toNat_of_field hi]⟩
    · cases h
  · rintro ⟨imm, t, rfl, rfl⟩
    simp [bneFields, Instr.operands]

theorem logFields_eq_some {ws : List Nat} {i : Instr} :
    logFields ws = some i ↔ ∃ k, .log k = i ∧ i.operands = ws := by
  constructor
  · intro h
    unfold logFields at h
    split at h
    · obtain ⟨k, hk, rfl⟩ := Option.map_eq_some_iff.mp h
      exact ⟨k, rfl, by rw [Instr.operands, LogKind.ofCode_eq_some.mp hk]⟩
    · cases h
  · rintro ⟨k, rfl, rfl⟩
    simp [logFields, Instr.operands]

theorem modeFields_eq_some {ws : List Nat} {i : Instr} :
    modeFields ws = some i ↔ .dmaSetMode = i ∧ i.operands = ws := by
  constructor
  · intro h
    unfold modeFields at h
    split at h <;> cases h
    exact ⟨rfl, rfl⟩
  · rintro ⟨rfl, rfl⟩
    rfl

theorem bltFields_eq_some {ws : List Nat} {i : Instr} :
    bltFields ws = some i ↔ ∃ t, .bltFull t = i ∧ i.operands = ws := by
  constructor
  · intro h
    unfold bltFields at h
    split at h <;> cases h
    exact ⟨_, rfl, rfl⟩
  · rintro ⟨t, rfl, rfl⟩
    rfl

/-- The rate's high byte comes first (R104). -/
theorem rateParameters_eq_some {ws : List Nat} {i : Instr} :
    rateParameters ws = some i ↔ ∃ rate, .setOutputRate rate = i ∧ i.operands = ws := by
  constructor
  · intro h
    unfold rateParameters at h
    split at h <;> [split at h; skip] <;> cases h
    rename_i h l hh hl
    exact ⟨word16 h l, rfl, by
      rw [Instr.operands, hiByte_word16, loByte_word16, toNat_of_field hh, toNat_of_field hl]⟩
  · rintro ⟨rate, rfl, rfl⟩
    simp [rateParameters, Instr.operands]

/-- The count's low byte comes first (R104). -/
theorem outputParameters_eq_some {ws : List Nat} {i : Instr} :
    outputParameters ws = some i ↔ ∃ mode countM1, .dma8Output mode countM1 = i ∧ i.operands = ws := by
  constructor
  · intro h
    unfold outputParameters at h
    split at h <;> [split at h; skip] <;> cases h
    rename_i m l h hm hl hh
    exact ⟨m, word16 h l, rfl, by
      rw [Instr.operands, hiByte_word16, loByte_word16, toNat_of_field hm, toNat_of_field hl, toNat_of_field hh]⟩
  · rintro ⟨mode, countM1, rfl, rfl⟩
    simp [outputParameters, Instr.operands]

/-! ### Decoding what is encoded -/

/-- A code that dispatches to a parser which reads the instruction's operands decodes to the instruction. -/
theorem decode_encode_of {i : Instr} {p : List Nat → Option Instr} (h : p i.operands = some i)
    (hd : decode i.level (encode i) = orBadOperands i.code (p i.operands)) : decode i.level (encode i) = .ok i :=
  hd.trans (orBadOperands_eq_ok.mpr h)

/-- Every instruction is read back from its words, at its level, if `SRC` is as long as `K` says. -/
theorem decode_encode (i : Instr) (hlen : ∀ k src, i = .submit k src → src.length = k) :
    decode i.level (encode i) = .ok i := by
  cases i with
  | dspProgramOutput rate count =>
    exact decode_encode_of (programOutputOperands_eq_some.mpr ⟨rate, count, rfl, rfl⟩) rfl
  | dspWriteByte b => exact decode_encode_of (writeByteOperands_eq_some.mpr ⟨b, rfl, rfl⟩) rfl
  | dmaConfigure ch paddr count =>
    exact decode_encode_of (configureOperands_eq_some.mpr ⟨ch, paddr, count, rfl, rfl⟩) rfl
  | startPlayback paddr count rate =>
    exact decode_encode_of (startOperands_eq_some.mpr ⟨paddr, count, rate, rfl, rfl⟩) rfl
  | submit k src => exact decode_encode_of (submitOperands_eq_some.mpr ⟨k, src, hlen k src rfl, rfl, rfl⟩) rfl
  | out r src => exact decode_encode_of (outFields_eq_some.mpr ⟨r, src, rfl, rfl⟩) rfl
  | inp d => exact decode_encode_of (inFields_eq_some.mpr ⟨d, rfl, rfl⟩) rfl
  | endOp src => exact decode_encode_of (endFields_eq_some.mpr ⟨src, rfl, rfl⟩) rfl
  | bneV imm t => exact decode_encode_of (bneFields_eq_some.mpr ⟨imm, t, rfl, rfl⟩) rfl
  | log k => exact decode_encode_of (logFields_eq_some.mpr ⟨k, rfl, rfl⟩) rfl
  | setOutputRate rate => exact decode_encode_of (rateParameters_eq_some.mpr ⟨rate, rfl, rfl⟩) rfl
  | dma8Output mode countM1 => exact decode_encode_of (outputParameters_eq_some.mpr ⟨mode, countM1, rfl, rfl⟩) rfl
  | _ => rfl

/-- Settles O1: well-formedness gives the length of `SRC`, and each code's parser reads its operand words back. -/
theorem decodeOfEncode : Obligations.DecodeOfEncode := by
  intro c i hwf
  apply decode_encode
  rintro k src rfl
  simpa [Instr.wf] using hwf

/-! ### Encoding what decodes -/

theorem encode_of_decodeRequest {ws : List Nat} {i : Instr} (h : decodeRequest ws = .ok i) : encode i = ws := by
  cases ws with
  | nil => cases h
  | cons w ops =>
    simp only [decodeRequest] at h
    split at h
    case h_9 => split at h <;> cases h
    all_goals rw [orBadOperands_eq_ok] at h
    case h_3 =>
      obtain ⟨_, _, rfl, rfl⟩ := programOutputOperands_eq_some.mp h
      rfl
    case h_5 =>
      obtain ⟨_, rfl, rfl⟩ := writeByteOperands_eq_some.mp h
      rfl
    case h_6 =>
      obtain ⟨_, _, _, rfl, rfl⟩ := configureOperands_eq_some.mp h
      rfl
    case h_7 =>
      obtain ⟨_, _, _, rfl, rfl⟩ := startOperands_eq_some.mp h
      rfl
    case h_8 =>
      obtain ⟨_, _, -, rfl, rfl⟩ := submitOperands_eq_some.mp h
      rfl
    all_goals
      obtain ⟨rfl, rfl⟩ := noOperands_eq_some.mp h
      rfl

theorem encode_of_decodeMicro {ws : List Nat} {i : Instr} (h : decodeMicro ws = .ok i) : encode i = ws := by
  cases ws with
  | nil => cases h
  | cons w fs =>
    simp only [decodeMicro] at h
    split at h
    case h_25 => split at h <;> cases h
    all_goals rw [orBadOperands_eq_ok] at h
    case h_1 =>
      obtain ⟨_, _, rfl, rfl⟩ := outFields_eq_some.mp h
      rfl
    case h_2 =>
      obtain ⟨_, rfl, rfl⟩ := inFields_eq_some.mp h
      rfl
    case h_5 =>
      obtain ⟨_, rfl, rfl⟩ := delayFields_eq_some.mp h
      rfl
    case h_6 =>
      obtain ⟨_, rfl, rfl⟩ := endFields_eq_some.mp h
      rfl
    case h_7 =>
      obtain ⟨_, _, rfl, rfl⟩ := bneFields_eq_some.mp h
      rfl
    case h_9 =>
      obtain ⟨_, rfl, rfl⟩ := logFields_eq_some.mp h
      rfl
    case h_15 =>
      obtain ⟨rfl, rfl⟩ := modeFields_eq_some.mp h
      rfl
    case h_22 =>
      obtain ⟨_, rfl, rfl⟩ := bltFields_eq_some.mp h
      rfl
    all_goals
      obtain ⟨rfl, rfl⟩ := noOperands_eq_some.mp h
      rfl

/-- What decodes as a DSP command is one, and the words are its own. -/
theorem encode_of_decodeDsp {ws : List Nat} {i : Instr} (h : decodeDsp ws = .ok i) :
    encode i = ws ∧ i.level = .dsp := by
  cases ws with
  | nil => cases h
  | cons w ps =>
    simp only [decodeDsp] at h
    split at h
    case h_4 => split at h <;> cases h
    all_goals rw [orBadOperands_eq_ok] at h
    case h_1 =>
      obtain ⟨rfl, rfl⟩ := noOperands_eq_some.mp h
      exact ⟨rfl, rfl⟩
    case h_2 =>
      obtain ⟨_, rfl, rfl⟩ := rateParameters_eq_some.mp h
      exact ⟨rfl, rfl⟩
    case h_3 =>
      obtain ⟨_, _, rfl, rfl⟩ := outputParameters_eq_some.mp h
      exact ⟨rfl, rfl⟩

/-- Settles O2: at each level the arm of the code's parser gives the instruction and its operand words. -/
theorem encodeOfDecode : Obligations.EncodeOfDecode := by
  intro l ws i h
  cases l with
  | request => exact ⟨encode_of_decodeRequest h, level_of_decodeRequest h⟩
  | micro => exact ⟨encode_of_decodeMicro h, level_of_decodeMicro h⟩
  | dsp => exact encode_of_decodeDsp h

/-- Settles O3: the decoder evaluated on each list of words. -/
theorem writtenWordsDecode : Obligations.WrittenWordsDecode :=
  ⟨rfl, rfl, rfl, rfl, rfl, rfl, rfl, rfl, rfl, rfl⟩

end Sys2Proof
end

section
/-! PROOF. The turn that runs what its words decode to (R117, R131), and the byte an `OUT` writes (R113, R151). -/

namespace Sys2Proof.Machine

/-! ### The host's turn -/

/-- A turn that stands first in the interleaving is taken from it and run (R20). -/
theorem step_cons {s : State} {t : Turn} {ts : List Turn} (h : s.turns = t :: ts) :
    step s = ({ s with turns := ts } : State).runTurn t := by
  rw [step, State.takeTurn_cons h]

/-- A well-formed request presented is run (R131). -/
theorem State.hostTurn_request {s : State} {ws : List Nat} {i : Instr} (hd : decodeRequest ws = .ok i)
    (hw : i.wf s.cfg = true) : s.hostTurn ws = exec i s := by
  simp only [hostTurn, hd, hw, if_true]

/-- Settles O6: the turn is taken, and the host's turn of a well-formed request is `exec` of it. -/
theorem stepRunsRequest : Obligations.StepRunsRequest := by
  intro s ts ws i ht hd hw
  rw [step_cons ht]
  exact State.hostTurn_request hd hw

/-! ### What a write to the DSP leaves unchanged -/

namespace State

/-- From `s` to `t` nothing but the DSP and what is left to draw has changed. -/
def DspOnly (s t : State) : Prop := ∃ d xs k, t = { s with dsp := d, draws := xs, tick := k }

theorem DspOnly.trans {s t u : State} (h : s.DspOnly t) (h' : t.DspOnly u) : s.DspOnly u := by
  obtain ⟨_, _, _, rfl⟩ := h
  obtain ⟨d, xs, k, rfl⟩ := h'
  exact ⟨d, xs, k, rfl⟩

theorem dspOnly_setDsp (s : State) (d : Dsp) : s.DspOnly (s.setDsp d) := ⟨d, s.draws, s.tick, rfl⟩

theorem dspOnly_draw (s : State) : s.DspOnly s.draw.2 := ⟨s.dsp, s.draw.2.draws, s.draw.2.tick, draw_frame s⟩

theorem dspOnly_dspVersion (s : State) : s.DspOnly s.dspVersion :=
  (dspOnly_draw s).trans ((dspOnly_draw _).trans (dspOnly_setDsp _ _))

/-- The parser ends in a version, or in another state of the DSP (R270 to R273). -/
theorem dspOnly_dspParse (s : State) (x : Byte) : s.DspOnly (s.dspParse x) := by
  unfold dspParse
  repeat' split
  case h_1.isTrue => exact dspOnly_dspVersion s
  all_goals exact dspOnly_setDsp s _

theorem dspOnly_writeReset (s : State) (x : Byte) : s.DspOnly (s.writeReset x) := by
  unfold writeReset
  repeat' split
  all_goals exact dspOnly_setDsp s _

/-- A byte taken draws the busy bit and is parsed; one not taken leaves the DSP UNKNOWN (R266). -/
theorem dspOnly_writeWdata (s : State) (x : Byte) : s.DspOnly (s.writeWdata x) := by
  unfold writeWdata
  refine (dspOnly_setDsp s { s.dsp with wdataReg := x }).trans ?_
  dsimp only
  split
  · exact (dspOnly_draw _).trans ((dspOnly_setDsp _ _).trans (dspOnly_dspParse _ _))
  · exact dspOnly_setDsp _ _

theorem dspOnly_portWrite (s : State) (r : OutReg) (x : Byte) : s.DspOnly (s.portWrite r x) := by
  cases r with
  | reset => exact dspOnly_writeReset s x
  | wdata => exact dspOnly_writeWdata s x

end State

/-! ### The byte an `OUT` writes -/

/-- `CNTM1 = (CNT - 1) mod 2^16` as integers: a count of 0 gives 65535 (R113). -/
theorem cntM1_toNat (c : Count) : ((cntM1 c).toNat : Int) = ((c.toNat : Int) - 1) % 65536 := by
  have hc := c.isLt
  have hone : (1 : Count).toNat = 1 := rfl
  simp only [cntM1, BitVec.toNat_setWidth, BitVec.toNat_sub, hone]
  omega

/-- After an `OUT` the event and the advance stand on the byte's write, which touched the DSP and the draws alone
(R151). -/
theorem exec_out (s : State) (r : OutReg) (src : ByteSource) : ∃ t, exec (.out r src) s = .next t ∧
    t = { s with
      dsp := t.dsp, draws := t.draws, tick := t.tick, upc := s.upc + 1, polls := 0
      trace := s.trace ++ [.pw (outRegister r) (s.byteSource src)] } := by
  refine ⟨_, rfl, ?_⟩
  obtain ⟨d, xs, k, h⟩ := State.dspOnly_portWrite s r (s.byteSource src)
  rw [h]
  rfl

theorem outRegister_eq_ite (r : OutReg) : outRegister r = if r = .reset then .reset else .wdata := by
  cases r <;> rfl

/-- Settles O17: the byte is the source's value, whose two 16-bit sources are taken apart by division by 256. -/
theorem outWritesSourceByte : Obligations.OutWritesSourceByte := by
  intro s r src
  obtain ⟨t, hexec, hframe⟩ := exec_out s r src
  rw [outRegister_eq_ite] at hframe
  refine ⟨t, s.byteSource src, hexec, ?imm, ?regB, ?rateHi, ?rateLo, ?cntM1Lo, ?cntM1Hi, ?modeByte, hframe⟩
  case imm => rintro x rfl; rfl
  case regB => rintro rfl; rfl
  case rateHi => rintro rfl; exact hiByte_toNat s.rate
  case rateLo => rintro rfl; exact loByte_toNat s.rate
  case cntM1Lo =>
    rintro rfl
    rw [State.byteSource, loByte_toNat, Int.natCast_emod, cntM1_toNat]
    rfl
  case cntM1Hi =>
    rintro rfl
    rw [State.byteSource, hiByte_toNat, Int.natCast_ediv, cntM1_toNat]
    rfl
  case modeByte => rintro rfl; rfl

end Sys2Proof.Machine
end

section
/-! PROOF. The sequencer (spec/40_sequencer.md): presenting a request while IDLE, BUSY and HALTED (R131 to R134), the
micro-step (R135) and `END` (R136). -/

namespace Sys2Proof

/-- A selector R111 reserves is rejected by name, whatever operand words follow it. -/
theorem decodeRequest_reserved {w : Nat} (hr : w = 0 ∨ 9 ≤ w) (hw : w < 256) (ops : List Nat) :
    decodeRequest (w :: ops) = .error (.reservedSelector (BitVec.ofNat 8 w)) := by
  have hf : field 8 w = some (BitVec.ofNat 8 w) := if_pos hw
  unfold decodeRequest
  dsimp only
  split
  case h_9 => rw [hf]
  all_goals omega

namespace Machine

/-! ### Presenting a request -/

/-- The machine with a request's operands latched (R131, R110); a micro-operation and a DSP command latch none. -/
def State.latch (i : Instr) (s : State) : State :=
  match i with
  | .dspProgramOutput rate count => { s with rate := rate, cnt := count }
  | .dspWriteByte b => { s with b := b }
  | .dmaConfigure ch paddr count => { s with ch := ch, paddr := paddr, cnt := count }
  | .startPlayback paddr count rate => { s with paddr := paddr, cnt := count, rate := rate, ch := s.cfg.dmaCh }
  | .submit k src => { s with k := k, src := src }
  | _ => s

/-- To run a request is to present its selector and its operand words, with its latch (R131 to R134). -/
theorem exec_request {i : Instr} (hl : i.level = .request) (s : State) :
    exec i s = .next (s.present i.code i.operands (State.latch i)) := by
  cases i with
  | dspReset | dspQueryVersion | dspProgramOutput | dspReadByte | dspWriteByte | dmaConfigure | startPlayback
  | submit => rfl
  | _ => cases hl

theorem exec_request_idle {i : Instr} {s : State} (hl : i.level = .request) (hs : s.seq = .idle) :
    exec i s = .next (s.accept i.code i.operands (State.latch i)) := by
  rw [exec_request hl, State.present_idle hs]

theorem exec_request_busy {i : Instr} {s : State} (hl : i.level = .request) (hs : s.seq = .busy) :
    exec i s = .next (s.raise .concurrentRequest (.selector i.code)) := by
  rw [exec_request hl, State.present_busy hs]

theorem exec_request_halted {i : Instr} {s : State} (hl : i.level = .request) (hs : s.seq = .halted) :
    exec i s = .next s := by
  rw [exec_request hl, State.present_halted hs]

/-- Settles O11: each of the eight is a request, which an idle block accepts. -/
theorem requestsAccepted : Obligations.RequestsAccepted := by
  intro s hs
  refine ⟨?dspReset, ?dspQueryVersion, ?dspProgramOutput, ?dspReadByte, ?dspWriteByte, ?dmaConfigure, ?startPlayback,
    ?submit⟩
  case dspReset | dspQueryVersion | dspReadByte => exact ⟨_, exec_request_idle rfl hs, rfl⟩
  case dspWriteByte => exact fun _ => ⟨_, exec_request_idle rfl hs, rfl⟩
  case dspProgramOutput | submit => exact fun _ _ => ⟨_, exec_request_idle rfl hs, rfl⟩
  case dmaConfigure | startPlayback => exact fun _ _ _ => ⟨_, exec_request_idle rfl hs, rfl⟩

/-! ### The host's turn -/

namespace State

theorem presentReserved_idle {s : State} (h : s.seq = .idle) (sel : Byte) :
    s.presentReserved sel = s.raiseIdle .badRequest (.selector sel) := by simp [presentReserved, h]

theorem presentReserved_busy {s : State} (h : s.seq = .busy) (sel : Byte) :
    s.presentReserved sel = s.raise .concurrentRequest (.selector sel) := by simp [presentReserved, h]

theorem presentReserved_halted {s : State} (h : s.seq = .halted) (sel : Byte) : s.presentReserved sel = s := by
  simp [presentReserved, h]

/-- A reserved selector presented (R132 to R134). -/
theorem hostTurn_reserved {s : State} {ws : List Nat} {sel : Byte}
    (hd : decodeRequest ws = .error (.reservedSelector sel)) : s.hostTurn ws = .next (s.presentReserved sel) := by
  simp only [hostTurn, hd]

/-- A reserved selector presented to an idle block (R133). -/
theorem hostTurn_reserved_idle {s : State} {ws : List Nat} {sel : Byte} (hs : s.seq = .idle)
    (hd : decodeRequest ws = .error (.reservedSelector sel)) :
    s.hostTurn ws = .next (s.raiseIdle .badRequest (.selector sel)) := by
  rw [hostTurn_reserved hd, presentReserved_idle hs]

/-- A selector presented to a busy block, of a well-formed request or reserved (R132). -/
theorem hostTurn_busy {s : State} {ws : List Nat} {sel : Byte} (hs : s.seq = .busy)
    (hsel : (∃ i, decodeRequest ws = .ok i ∧ i.wf s.cfg = true ∧ i.code = sel)
      ∨ decodeRequest ws = .error (.reservedSelector sel)) :
    s.hostTurn ws = .next (s.raise .concurrentRequest (.selector sel)) := by
  rcases hsel with ⟨i, hd, hwf, rfl⟩ | hd
  · rw [hostTurn_request hd hwf, exec_request_busy (level_of_decodeRequest hd) hs]
  · rw [hostTurn_reserved hd, presentReserved_busy hs]

/-- Nothing the host presents changes a halted block (R134). -/
theorem hostTurn_halted {s : State} (hs : s.seq = .halted) (ws : List Nat) : s.hostTurn ws = .next s := by
  unfold hostTurn
  split
  case h_1 i hd =>
    split
    · exact exec_request_halted (level_of_decodeRequest hd) hs
    · rfl
  case h_2 => rw [presentReserved_halted hs]
  case h_3 => rfl

end State

/-- Settles O12: the turn is taken, and a request presented to a busy block raises the fault. -/
theorem requestWhileBusyFaults : Obligations.RequestWhileBusyFaults := by
  intro s ts ws sel ht hs hsel
  rw [step_cons ht]
  exact State.hostTurn_busy (s := { s with turns := ts }) hs hsel

/-- Settles O13: the turn is taken, and the decoder names the selector as reserved. -/
theorem reservedSelectorFaults : Obligations.ReservedSelectorFaults := by
  intro w ops s ts hr hw ht hs
  rw [step_cons ht]
  exact State.hostTurn_reserved_idle (s := { s with turns := ts }) hs (decodeRequest_reserved hr hw ops)

/-- Settles O14: the turn is taken, and the host's turn leaves a halted block as it is. -/
theorem requestWhileHaltedHasNoStep : Obligations.RequestWhileHaltedHasNoStep := by
  intro s ts ws ht hs
  rw [step_cons ht]
  exact State.hostTurn_halted (s := { s with turns := ts }) hs ws

/-! ### The sequencer's turn -/

namespace State

/-- The micro-operation fetched is the one the fetched words decode to. -/
theorem fetchInstr_of_decodeMicro {s : State} {ws : List Nat} {i : Instr} (hf : s.fetch = some ws)
    (hd : decodeMicro ws = .ok i) : s.fetchInstr = some i := by
  simp only [fetchInstr, hf, hd]

/-- While IDLE or HALTED the sequencer has no step (R135). -/
theorem sequencerTurn_not_busy {s : State} (h : s.seq ≠ .busy) : s.sequencerTurn = .next s := if_neg h

end State

/-- Settles O5: the turn is taken, and the sequencer's turn is `exec` of what it fetches. -/
theorem stepRunsMicroOperation : Obligations.StepRunsMicroOperation := by
  intro s ts ws i ht hs hf hd
  rw [step_cons ht]
  exact State.sequencerTurn_fetched hs (State.fetchInstr_of_decodeMicro hf hd)

/-- Settles O7: a built block fetches the listing's entry while BUSY, and has no step otherwise. -/
theorem builtBlockRunsListing : Obligations.BuiltBlockRunsListing := by
  intro s ts hb ht
  rw [step_cons ht]
  refine ⟨fun i hs hi => ?busy, fun hs => ?notBusy⟩
  case busy =>
    have hf : ({ s with turns := ts } : State).fetchInstr = some i := (State.fetchInstr_built hb.2).trans hi
    exact State.sequencerTurn_fetched hs hf
  case notBusy => exact State.sequencerTurn_not_busy hs

/-! ### `END` -/

theorem exec_endOp (src : EndSource) (s : State) : exec (.endOp src) s = .next (s.finish (s.endResponse src)) := rfl

/-- Settles O16: `END` finishes with the response of its source. -/
theorem endGivesResponse : Obligations.EndGivesResponse := by
  intro s src
  refine ⟨_, exec_endOp src s, ?ok, ?v, ?ver, ?acc, rfl⟩
  case ok | v | ver | acc =>
    rintro rfl
    rfl

end Machine

end Sys2Proof
end

section
/-! PROOF. The port I/O primitives (spec/41_port_io.md): what every step keeps of the handshake with the DSP (R156), and
what `IN`, the polls and `DELAY` do (R152 to R155). -/

namespace Sys2Proof.Machine

/-! ### A DSP in HELD has no byte (R261) -/

namespace State

/-- A byte parsed leaves the DSP's state, or makes it UNKNOWN (R270 to R273). -/
theorem dspParse_st (s : State) (x : Byte) : (s.dspParse x).dsp.st = s.dsp.st ∨ (s.dspParse x).dsp.st = .unknown := by
  unfold dspParse
  repeat' split
  case h_1.isTrue => left; simp [dspVersion]
  case h_1.isFalse.isFalse | h_2.isFalse.isFalse => exact .inr rfl
  all_goals exact .inl rfl

/-- After a write to `WDATA` the DSP is READY or UNKNOWN (R266). -/
theorem writeWdata_not_held (s : State) (x : Byte) : (s.writeWdata x).dsp.st ≠ .held := by
  simp only [writeWdata]
  split
  case isTrue h =>
    rcases dspParse_st _ x with e | e <;> rw [e]
    · rw [setDsp_dsp, draw_dsp, h.1]
      decide
    · decide
  case isFalse => simp

/-- The write to `RESET` that holds the DSP takes its byte away (R261). -/
theorem writeReset_held_empty (s : State) (x : Byte) (h : (s.writeReset x).dsp.st = .held) :
    (s.writeReset x).dsp.avail = false := by
  unfold writeReset at h ⊢
  split at h
  case isTrue hx => rw [if_pos hx]; rfl
  case isFalse =>
    simp only [apply_ite dsp, setDsp_dsp] at h
    repeat' split at h
    all_goals cases h

theorem portWrite_held_empty (s : State) (r : OutReg) (x : Byte) (h : (s.portWrite r x).dsp.st = .held) :
    (s.portWrite r x).dsp.avail = false := by
  cases r with
  | reset => exact writeReset_held_empty s x h
  | wdata => exact absurd h (writeWdata_not_held s x)

/-- `PortRead(RDATA)` of a DSP that is not UNKNOWN and has a byte (R265). -/
theorem readRdata_available {s : State} (hs : s.dsp.st ≠ .unknown) (ha : s.dsp.avail = true) :
    s.readRdata = (s.dsp.latch, s.setDsp { s.dsp with avail := false }) := by
  rw [readRdata, if_neg hs, if_pos ha]

/-- `PortRead(RDATA)` of an UNKNOWN DSP, or of one with no byte (R265). -/
theorem readRdata_unavailable {s : State} (h : s.dsp.st = .unknown ∨ s.dsp.avail = false) : s.readRdata = s.draw := by
  unfold readRdata
  rcases h with h | h
  · rw [if_pos h]
  · rw [h, if_neg Bool.false_ne_true, ite_self]

/-- A read of `RDATA` leaves a HELD DSP without a byte as it is (R265). -/
theorem readRdata_held_empty {s : State} (he : s.dsp.st = .held → s.dsp.avail = false)
    (h : s.readRdata.2.dsp.st = .held) : s.readRdata.2.dsp.avail = false := by
  by_cases hr : s.dsp.st = .unknown ∨ s.dsp.avail = false
  · rw [readRdata_unavailable hr, draw_dsp] at h ⊢
    exact he h
  · rw [not_or, Bool.not_eq_false] at hr
    rw [readRdata_available hr.1 hr.2]
    rfl

@[simp] theorem dspDelay_st (s : State) (d : Nat) : (s.dspDelay d).dsp.st = s.dsp.st := by
  unfold dspDelay
  split <;> rfl

@[simp] theorem dspDelay_avail (s : State) (d : Nat) : (s.dspDelay d).dsp.avail = s.dsp.avail := by
  unfold dspDelay
  split <;> rfl

end State

/-- No micro-operation gives a HELD DSP a byte (R261, R265). -/
theorem MicroStep.held_empty {s t : State} {i : Instr} (h : MicroStep s i t)
    (he : s.dsp.st = .held → s.dsp.avail = false) : t.dsp.st = .held → t.dsp.avail = false := by
  cases h
  case out r src => exact State.portWrite_held_empty s r _
  case inp d => simpa using State.readRdata_held_empty he
  all_goals simpa using he

/-! ### A data access comes after its poll (R156) -/

/-- Only a `POLL_WR` stands before an `OUT WDATA`. -/
theorem eq_pollWr_of_follows {i : Instr} {src : ByteSource} (h : follows i (.out .wdata src) = true) : i = .pollWr := by
  simp_all [follows, isDataOut]

/-- Only a `POLL_RD` stands before an `IN`. -/
theorem eq_pollRd_of_follows {i : Instr} {d : InDest} (h : follows i (.inp d) = true) : i = .pollRd := by
  simp_all [follows, isDataOut, isDataIn]

/-- A data access is come to by an advance alone, from an entry it may follow: neither a hold nor a branch leads to
one. -/
theorem MicroStep.advance_to_access {s t : State} {i j : Instr} (h : MicroStep s i t) (hi : s.current = some i)
    (hb : s.seq = .busy) (ht : t.seq = .busy) (hj : t.current = some j) (ha : (isDataOut j || isDataIn j) = true) :
    t.upc = s.upc + 1 ∧ follows i j = true := by
  rcases h.current_next hi hb ht with ⟨-, e, hk⟩ | ⟨_, hu, e, hf⟩ | ⟨_, -, -, -, e⟩ | ⟨-, -, -, -, e⟩ <;>
    rw [hj] at e <;> cases e
  case inl => rcases hk with rfl | rfl | ⟨rfl, -⟩ | rfl <;> cases ha
  case inr.inl => exact ⟨hu, hf⟩
  all_goals cases ha

/-- A `POLL_WR` that advanced has read the bit clear, and left the DSP as it was (R153). -/
theorem MicroStep.pollWr_advanced {s t : State} (h : MicroStep s .pollWr t) (ht : t.seq = .busy)
    (hu : t.upc = s.upc + 1) : busyFlag s.readWstatus.1 = false ∧ t.dsp = s.dsp := by
  cases h with
  | pollWrDone hx => exact ⟨hx, by simp⟩
  | pollWrHold => simp at hu
  | pollWrFault | notLocked | notCleared => cases ht

/-- A `POLL_RD` that advanced has read the bit set, and left the DSP as it was (R154). -/
theorem MicroStep.pollRd_advanced {s t : State} (h : MicroStep s .pollRd t) (ht : t.seq = .busy)
    (hu : t.upc = s.upc + 1) : availFlag s.readRstatus.1 = true ∧ t.dsp = s.dsp := by
  cases h with
  | pollRdDone hx => exact ⟨hx, by simp⟩
  | pollRdHold => simp at hu
  | pollRdFault | notLocked | notCleared => cases ht

/-- A READY DSP is not busy when a micro-operation comes to an `OUT WDATA`: a poll has just read its busy bit (R264). -/
theorem MicroStep.out_not_busy {s t : State} {i : Instr} {src : ByteSource} (h : MicroStep s i t)
    (hi : s.current = some i) (hb : s.seq = .busy) (ht : t.seq = .busy) (ho : t.current = some (.out .wdata src))
    (hr : t.dsp.st = .ready) : t.dsp.busy = false := by
  obtain ⟨hu, hf⟩ := h.advance_to_access hi hb ht ho rfl
  obtain rfl := eq_pollWr_of_follows hf
  obtain ⟨hx, hd⟩ := h.pollWr_advanced ht hu
  rw [hd] at hr ⊢
  rwa [State.readWstatus, if_pos hr, busyFlag_statusByte] at hx

/-- A DSP that is not UNKNOWN has a byte when a micro-operation comes to an `IN`: a poll has just read its available bit
(R263). -/
theorem MicroStep.in_available {s t : State} {i : Instr} {d : InDest} (h : MicroStep s i t)
    (hi : s.current = some i) (hb : s.seq = .busy) (ht : t.seq = .busy) (ho : t.current = some (.inp d))
    (hn : t.dsp.st ≠ .unknown) : t.dsp.avail = true := by
  obtain ⟨hu, hf⟩ := h.advance_to_access hi hb ht ho rfl
  obtain rfl := eq_pollRd_of_follows hf
  obtain ⟨hx, hd⟩ := h.pollRd_advanced ht hu
  rw [hd] at hn ⊢
  rwa [State.readRstatus, if_neg hn, availFlag_statusByte] at hx

/-! ### The DSP's own steps keep the handshake (R267 to R269, R274 to R276) -/

/-- Each condition of the handshake that `d` meets `e` meets too: not busy while READY, with a byte unless UNKNOWN,
without one while HELD. -/
structure Dsp.KeepsHandshake (d e : Dsp) : Prop where
  not_busy : (d.st = .ready → d.busy = false) → e.st = .ready → e.busy = false
  available : (d.st ≠ .unknown → d.avail = true) → e.st ≠ .unknown → e.avail = true
  held_empty : (d.st = .held → d.avail = false) → e.st = .held → e.avail = false

theorem Dsp.KeepsHandshake.refl (d : Dsp) : d.KeepsHandshake d := ⟨id, id, id⟩

/-- A step of the DSP's own may set its busy bit or take its byte in UNKNOWN alone, and gives a byte in BOOT and READY
alone. -/
theorem dspMove_keepsHandshake {s t : State} {m : DspMove} (h : s.dspMove m = .next t) :
    s.dsp.KeepsHandshake t.dsp := by
  cases m
  case transfer =>
    rcases State.dspTransfer_next h with rfl | ⟨r, -, -, -, -, -, rfl⟩
    · exact .refl _
    · rw [State.delivered_frame]
      exact ⟨id, id, id⟩
  case starve =>
    rcases State.dspStarve_next h with rfl | ⟨-, rfl⟩
    · exact .refl _
    · rw [State.stepSession_frame]
      exact ⟨id, id, id⟩
  case nothing => cases h; exact .refl _
  case presentNoise x =>
    cases h
    split
    · rename_i hg
      exact ⟨fun _ hr => absurd (hg.1.symm.trans hr) (by decide), fun _ _ => rfl,
        fun _ hh => absurd (hg.1.symm.trans hh) (by decide)⟩
    · exact .refl _
  case presentReady =>
    cases h
    split
    · exact ⟨fun _ _ => rfl, fun _ _ => rfl, fun _ hh => by cases hh⟩
    · exact .refl _
  case clearBusy =>
    cases h
    split
    · exact ⟨fun _ _ => rfl, id, id⟩
    · exact .refl _
  case presentOutput =>
    cases h
    repeat' split
    · rename_i hg
      exact ⟨id, fun _ _ => rfl, fun _ hh => absurd (hg.1.symm.trans hh) (by decide)⟩
    · exact .refl _
    · exact .refl _
  case anything avail latch busy out cmd rate sess =>
    cases h
    split
    · rename_i hg
      exact ⟨fun _ hr => absurd (hg.1.symm.trans hr) (by decide), fun _ hn => absurd hg.1 hn,
        fun _ hh => absurd (hg.1.symm.trans hh) (by decide)⟩
    · exact .refl _

/-! ### Every step keeps the handshake -/

namespace State

/-- At the same place of the listing, a DSP that keeps the handshake keeps it for the block. -/
theorem Handshake.of_dsp {s t : State} (h : s.Handshake) (hq : t.seq = s.seq) (hc : t.current = s.current)
    (hd : s.dsp.KeepsHandshake t.dsp) : t.Handshake where
  out_not_busy hb ho := hd.not_busy (h.out_not_busy (hq ▸ hb) (hc ▸ ho))
  in_available hb hi := hd.available (h.in_available (hq ▸ hb) (hc ▸ hi))
  held_empty := hd.held_empty h.held_empty

/-- A block that is not BUSY accesses no data. -/
theorem Handshake.of_not_busy {s : State} (hb : s.seq ≠ .busy) (he : s.dsp.st = .held → s.dsp.avail = false) :
    s.Handshake :=
  ⟨fun h => absurd h hb, fun h => absurd h hb, he⟩

/-- A listing's entry that accesses no data asks nothing of the DSP but what HELD does. -/
theorem Handshake.of_no_access {s : State} {i : Instr} (hi : s.current = some i) (ho : isDataOut i = false)
    (hn : isDataIn i = false) (he : s.dsp.st = .held → s.dsp.avail = false) : s.Handshake where
  out_not_busy := by
    rintro - ⟨src, hc⟩
    rw [hi] at hc
    cases hc
    cases ho
  in_available := by
    rintro - ⟨d, hc⟩
    rw [hi] at hc
    cases hc
    cases hn
  held_empty := he

end State

/-- Every turn of a block under control keeps the handshake. -/
theorem TurnStep.handshake {s t : State} (h : TurnStep s t) (hc : s.Control) (hh : s.Handshake) : t.Handshake := by
  cases h with
  | idle => exact hh
  | micro i _ hb _ hf hm =>
    have hi := State.current_of_fetchInstr hc hf
    exact ⟨fun ht ⟨_, ho⟩ => hm.out_not_busy hi hb ht ho, fun ht ⟨_, hn⟩ => hm.in_available hi hb ht hn,
      hm.held_empty hh.held_empty⟩
  | accepted sel _ _ _ hsel _ _ e =>
    obtain ⟨i, hi, ho, hn, -⟩ := Microcode.listing_head s.cfg hsel
    rw [e]
    exact .of_no_access hi ho hn hh.held_empty
  | concurrent | reserved => exact .of_not_busy (by simp) hh.held_empty
  | dsp _ _ hd =>
    have e := State.dspMove_frame hd
    exact hh.of_dsp (by rw [e]) (State.current_congr (by rw [e]) (by rw [e]) (by rw [e])) (dspMove_keepsHandshake hd)
  | user m =>
    rw [State.userMove_frame]
    exact hh.of_dsp rfl rfl (.refl _)

/-- Settles O49: each turn keeps the handshake, and whose turn it is has no part in it. -/
theorem handshakeKept : Obligations.HandshakeKept := by
  intro s t hc hh h
  obtain ⟨ts, k, ht⟩ := step_turn h
  exact ht.handshake (hc.with_turns ts k) (hh.of_dsp rfl rfl (.refl _))

/-! ### `IN` (R152, R265) -/

namespace State

theorem dspOnly_readRdata (s : State) : s.DspOnly s.readRdata.2 := by
  by_cases h : s.dsp.st = .unknown ∨ s.dsp.avail = false
  · rw [readRdata_unavailable h]
    exact dspOnly_draw s
  · rw [not_or, Bool.not_eq_false] at h
    rw [readRdata_available h.1 h.2]
    exact dspOnly_setDsp s _

/-- The byte goes to the destination, and the other two registers stay (R152). -/
theorem setDest_eq (s : State) (d : InDest) (x : Byte) : s.setDest d x = { s with
    v := if d = .v then x else s.v, maj := if d = .maj then x else s.maj, min := if d = .min then x else s.min } := by
  cases d <;> rfl

end State

/-- After an `IN` the DSP and the draws are as the read of `RDATA` left them, and the byte read is in the destination
and in the event (R152). -/
theorem exec_inp (s : State) (d : InDest) : exec (.inp d) s = .next { s with
    v := if d = .v then s.readRdata.1 else s.v, maj := if d = .maj then s.readRdata.1 else s.maj
    min := if d = .min then s.readRdata.1 else s.min
    dsp := s.readRdata.2.dsp, draws := s.readRdata.2.draws, tick := s.readRdata.2.tick
    upc := s.upc + 1, polls := 0, trace := s.trace ++ [.pr .rdata s.readRdata.1] } := by
  obtain ⟨e, xs, k, h⟩ := s.dspOnly_readRdata
  rw [exec, execIn, State.setDest_eq, h]
  rfl

/-- Settles O22: the read of `RDATA` consumes an available byte and draws one otherwise. -/
theorem inReadsDataByte : Obligations.InReadsDataByte := by
  intro s d
  refine ⟨_, s.readRdata.1, exec_inp s d, ?available, ?drawn, rfl, rfl, rfl, rfl⟩
  case available =>
    intro hs ha
    rw [State.readRdata_available hs ha]
    exact ⟨rfl, rfl, rfl, rfl⟩
  case drawn =>
    intro h
    rw [State.readRdata_unavailable h]
    refine ⟨State.draw_dsp s, fun y ys hd => ?_⟩
    rw [State.draw_cons hd]
    exact ⟨rfl, rfl⟩

/-! ### The polls (R153, R154, R263, R264) -/

namespace State

/-- A count has come to a limit of R7 only if the limit is a number. -/
theorem limitReached_iff {l : Option Nat} {n : Nat} : limitReached l n = true ↔ ∃ m, l = some m ∧ m ≤ n := by
  cases l <;> simp [limitReached]

/-- A poll that is to be made again counts the read and holds. -/
theorem poll_hold {s : State} (h : ∀ n, s.cfg.pollLimit = some n → s.polls + 1 < n) (r : DspReg) (x : Byte) :
    s.poll r x false = { s with polls := s.polls + 1, trace := s.trace ++ [.pr r x] } := by
  refine if_neg fun hl => ?_
  obtain ⟨n, hn, hle⟩ := limitReached_iff.mp hl
  exact absurd (h n hn) (Nat.not_lt.mpr hle)

/-- A poll whose count has come to the limit raises `F_DEVICE_NOT_RESPONDING`. -/
theorem poll_limit {s : State} {n : Nat} (hn : s.cfg.pollLimit = some n) (h : n ≤ s.polls + 1) (r : DspReg)
    (x : Byte) : s.poll r x false = ({ s with polls := s.polls + 1, trace := s.trace ++ [.pr r x] } : State).raise
      .deviceNotResponding (.device r (s.polls + 1)) :=
  if_pos (limitReached_iff.mpr ⟨n, hn, h⟩)

/-- From `s` to `t` register `r` was polled once and read `x`, with the wait over or not: the three ways a poll ends
(R153, R154). -/
structure Polled (s t : State) (r : DspReg) (x : Byte) (done : Bool) : Prop where
  advances : done = true → t = { s with
    draws := t.draws, tick := t.tick, upc := s.upc + 1, polls := 0, trace := s.trace ++ [.pr r x] }
  holds : done = false → (∀ n, s.cfg.pollLimit = some n → s.polls + 1 < n) → t = { s with
    draws := t.draws, tick := t.tick, polls := s.polls + 1, trace := s.trace ++ [.pr r x] }
  faults : done = false → ∀ n, s.cfg.pollLimit = some n → n ≤ s.polls + 1 → t = { s with
    draws := t.draws, tick := t.tick, polls := s.polls + 1, seq := .halted, fault := some .deviceNotResponding
    faultInfo := { sel := some s.sel, upc := some s.upc, detail := .device r (s.polls + 1) }
    trace := s.trace ++ [.pr r x, .fault .deviceNotResponding
      { sel := some s.sel, upc := some s.upc, detail := .device r (s.polls + 1) }] }

/-- A poll after a read that drew a byte ends in one of the three ways. -/
theorem polled_draw (s : State) (r : DspReg) (x : Byte) (done : Bool) :
    s.Polled (s.draw.2.poll r x done) r x done := by
  rw [draw_frame]
  exact
    { advances := by rintro rfl; rfl
      holds := by
        rintro rfl h
        rw [poll_hold]
        exact h
      faults := by
        rintro rfl n hn h
        rw [poll_limit (n := n)]
        case hn => exact hn
        case h => exact h
        simp [raise, halt] }

theorem poll_draws (s : State) (r : DspReg) (x : Byte) (done : Bool) : (s.poll r x done).draws = s.draws := by
  simp only [poll]
  repeat' split
  all_goals rfl

/-- A read of `WSTATUS` draws one byte: bits 6:0 of a READY DSP's status, or the whole byte read (R264). -/
theorem readWstatus_snd (s : State) : s.readWstatus.2 = s.draw.2 := by
  unfold readWstatus
  split <;> rfl

/-- A read of `RSTATUS` draws one byte: bits 6:0 of the status, or the whole byte read of an UNKNOWN DSP (R263). -/
theorem readRstatus_snd (s : State) : s.readRstatus.2 = s.draw.2 := by
  unfold readRstatus
  split <;> rfl

end State

theorem exec_pollWr (s : State) :
    exec .pollWr s = .next (s.draw.2.poll .wstatus s.readWstatus.1 (!busyFlag s.readWstatus.1)) := by
  rw [exec, execPollWr, State.readWstatus_snd]

theorem exec_pollRd (s : State) :
    exec .pollRd s = .next (s.draw.2.poll .rstatus s.readRstatus.1 (availFlag s.readRstatus.1)) := by
  rw [exec, execPollRd, State.readRstatus_snd]

/-- Settles O23: the wait of `POLL_WR` is over when bit 7 of the byte read is clear. -/
theorem pollWrWaitsForBusyClear : Obligations.PollWrWaitsForBusyClear := by
  intro s
  have hp := s.polled_draw .wstatus s.readWstatus.1 (!busyFlag s.readWstatus.1)
  refine ⟨_, s.readWstatus.1, exec_pollWr s, ?flag, ?draws, fun hx => hp.advances ?_, fun hx => hp.holds ?_,
    fun hx => hp.faults ?_⟩
  case flag =>
    intro hs
    rw [State.readWstatus, if_pos hs]
    exact busyFlag_statusByte _ _
  case draws =>
    intro y ys hd
    rw [State.poll_draws, State.readWstatus, State.draw_cons hd]
    exact ⟨rfl, fun hs => by rw [if_neg hs]⟩
  all_goals exact congrArg Bool.not hx

/-- Settles O24: the wait of `POLL_RD` is over when bit 7 of the byte read is set. -/
theorem pollRdWaitsForData : Obligations.PollRdWaitsForData := by
  intro s
  have hp := s.polled_draw .rstatus s.readRstatus.1 (availFlag s.readRstatus.1)
  refine ⟨_, s.readRstatus.1, exec_pollRd s, ?flag, ?draws, hp.advances, hp.holds, hp.faults⟩
  case flag =>
    intro hs
    rw [State.readRstatus, if_neg hs]
    exact availFlag_statusByte _ _
  case draws =>
    intro y ys hd
    rw [State.poll_draws, State.readRstatus, State.draw_cons hd]
    exact ⟨rfl, fun hs => by rw [if_pos hs]⟩

/-! ### `DELAY` (R155, R262) -/

theorem exec_delay (d : Nat) (s : State) : exec (.delay d) s = .next ((s.dspDelay d).emit (.dly d)).advance := rfl

/-- Settles O25: a HELD DSP and a delay long enough make the pulse good, and any other DSP or delay changes nothing. -/
theorem delayMakesPulse : Obligations.DelayMakesPulse := by
  intro s d
  refine ⟨_, exec_delay d s, ?pulse, ?other, ?frame⟩
  case pulse =>
    intro hs hd
    rw [State.dspDelay, if_pos ⟨hs, hd⟩]
    rfl
  case other =>
    intro h
    rw [State.dspDelay, if_neg fun hg => h.elim (absurd hg.1) (Nat.not_lt.mpr hg.2)]
    rfl
  case frame =>
    unfold State.dspDelay
    split <;> rfl

end Sys2Proof.Machine
end

section
/-! PROOF. The DSP protocol (spec/42_dsp_protocol.md): the three micro-operations `BNE_V`, `CHK_CNT`, `LOG` (R174, R177,
R179), and the runs of `DSP_RESET` and `DSP_QUERY_VERSION` to their end (R173, R175, R176, R181), put together from the
turns of the host, the DSP and the sequencer's pairs `WRITEBYTE` and `READBYTE` (R119). -/

namespace Sys2Proof.Machine

/-! ### `BNE_V`, `CHK_CNT`, `LOG` (R174, R177, R179) -/

theorem exec_bneV_equal {s : State} {imm : Byte} (h : s.v = imm) (n : Nat) :
    exec (.bneV imm n) s = .next s.advance :=
  congrArg Host.Outcome.next (if_pos h)

/-- A byte other than the expected one is counted: the micro-operation branches below the limit of the counts (R174). -/
theorem exec_bneV_retry {s : State} {imm : Byte} (h : s.v ≠ imm)
    (hl : ∀ l, s.cfg.resetReadLimit = some l → s.retries + 1 < l) (n : Nat) :
    exec (.bneV imm n) s = .next (({ s with retries := s.retries + 1 } : State).branch n) := by
  refine congrArg Host.Outcome.next ((if_neg h).trans (if_neg fun hr => ?_))
  obtain ⟨l, hs, hle⟩ := State.limitReached_iff.mp hr
  exact absurd (hl l hs) (Nat.not_lt.mpr hle)

/-- At the limit of the counts the micro-operation faults (R174). -/
theorem exec_bneV_limit {s : State} {imm : Byte} (h : s.v ≠ imm) {l : Nat} (hs : s.cfg.resetReadLimit = some l)
    (hl : l ≤ s.retries + 1) (n : Nat) :
    exec (.bneV imm n) s = .next (({ s with retries := s.retries + 1 } : State).raise
      .deviceNotResponding (.device .rdata (s.retries + 1))) :=
  congrArg Host.Outcome.next ((if_neg h).trans (if_pos (State.limitReached_iff.mpr ⟨l, hs, hl⟩)))

/-- Settles O26: the byte is the expected one, or the count is below the limit, or at it. -/
theorem bneVRetries : Obligations.BneVRetries := by
  intro s imm n
  refine ⟨_, rfl, ?equal, ?retry, ?limit⟩
  case equal => exact fun h => Host.Outcome.next.inj (exec_bneV_equal h n)
  case retry => exact fun h hl => Host.Outcome.next.inj (exec_bneV_retry h hl n)
  case limit => exact fun h _ hs hl => Host.Outcome.next.inj (exec_bneV_limit h hs hl n)

theorem exec_chkCnt_pass {s : State} (hlo : 1 ≤ s.cnt.toNat) (hhi : s.cnt.toNat ≤ 65536) :
    exec .chkCnt s = .next s.advance :=
  congrArg Host.Outcome.next (if_neg (by omega))

theorem exec_chkCnt_fault {s : State} (h : s.cnt.toNat = 0 ∨ 65536 < s.cnt.toNat) :
    exec .chkCnt s = .next (s.raise .transferCountRange (.count s.cnt)) :=
  congrArg Host.Outcome.next (if_pos (by omega))

/-- Settles O27: the count is in its range or outside it, and never both. -/
theorem chkCntChecksRange : Obligations.ChkCntChecksRange := by
  intro s
  by_cases h : s.cnt.toNat = 0 ∨ 65536 < s.cnt.toNat
  · exact ⟨_, exec_chkCnt_fault h, fun _ _ => by omega, fun _ => rfl⟩
  · exact ⟨_, exec_chkCnt_pass (by omega) (by omega), fun _ _ => rfl, fun hc => absurd hc h⟩

theorem exec_log_version (s : State) : exec (.log .version) s = .next (s.emit (.logVersion s.maj s.min)).advance := rfl

theorem exec_log_intent (s : State) : exec (.log .intent) s =
    .next (({ s with triggers := s.triggers + 1 } : State).emit (.logIntent s.paddr s.cnt s.rate)).advance := rfl

/-- Settles O28, one kind of log after the other. -/
theorem logEmits : Obligations.LogEmits :=
  fun s => ⟨⟨_, exec_log_version s, rfl⟩, ⟨_, exec_log_intent s, rfl⟩⟩

/-! ### The micro-operations of these runs, where nothing keeps them waiting -/

/-- A poll of `RSTATUS` of a DSP that has a byte reads bit 7 set and advances (R154, R263). -/
theorem exec_pollRd_available {s : State} (hs : s.dsp.st ≠ .unknown) (ha : s.dsp.avail = true) :
    ∃ (x : Byte) (xs : List Byte) (k : Nat), x.getLsbD 7 = true ∧ exec .pollRd s = .next { s with
      draws := xs, tick := k, upc := s.upc + 1, polls := 0, trace := s.trace ++ [.pr .rstatus x] } := by
  have hx : s.readRstatus.1 = statusByte true s.draw.1 := by rw [State.readRstatus, if_neg hs, ha]
  refine ⟨_, s.draw.2.draws, s.draw.2.tick, statusFlag_statusByte true s.draw.1, ?_⟩
  rw [exec_pollRd, hx, availFlag_statusByte, State.draw_frame]
  rfl

/-- A poll of `WSTATUS` of a READY DSP that is not busy reads bit 7 clear and advances (R153, R264). -/
theorem exec_pollWr_ready {s : State} {y : Byte} {ys : List Byte} (hs : s.dsp.st = .ready) (hb : s.dsp.busy = false)
    (hd : s.draws = y :: ys) : exec .pollWr s = .next { s with
      draws := ys, upc := s.upc + 1, polls := 0, trace := s.trace ++ [.pr .wstatus (statusByte false y)] } := by
  have hx : s.readWstatus.1 = statusByte false y := by rw [State.readWstatus, if_pos hs, hb, State.draw_cons hd]
  rw [exec_pollWr, hx, busyFlag_statusByte, State.draw_cons hd]
  rfl

/-- A DSP held in reset, whatever it was before (R261). -/
def Dsp.held (d : Dsp) : Dsp :=
  { d with st := .held, pulseOk := false, out := [], cmd := none, sess := none, avail := false, resetReg := 0x01 }

/-- A DSP that has been through a good reset pulse, whatever it was before (R175 (a), R261, R262). -/
def Dsp.pulsed (d : Dsp) : Dsp := { d.held with st := .boot, pulseOk := true, resetReg := 0x00 }

/-- A DSP out of reset that presents the ready byte (R267). -/
def Dsp.readied (d : Dsp) : Dsp :=
  { d with latch := 0xAA, avail := true, st := .ready, busy := false, cmd := none, out := [], sess := none }

theorem exec_out_reset_hold (s : State) : exec (.out .reset (.imm 0x01)) s = .next { s with
    upc := s.upc + 1, polls := 0, dsp := s.dsp.held, trace := s.trace ++ [.pw .reset 0x01] } := rfl

/-- A delay that is long enough makes the pulse of a HELD DSP good (R262). -/
theorem exec_delay_held {s : State} {d : Nat} (hs : s.dsp.st = .held) (hd : s.cfg.resetPulseMinUs ≤ d) :
    exec (.delay d) s = .next { s with
      upc := s.upc + 1, polls := 0, dsp := { s.dsp with pulseOk := true }, trace := s.trace ++ [.dly d] } := by
  rw [exec_delay, State.dspDelay, if_pos ⟨hs, hd⟩]
  rfl

/-- A good pulse ends in BOOT (R261). -/
theorem exec_out_reset_boot {s : State} (hs : s.dsp.st = .held) (hp : s.dsp.pulseOk = true) :
    exec (.out .reset (.imm 0x00)) s = .next { s with
      upc := s.upc + 1, polls := 0, dsp := { s.dsp with st := .boot, resetReg := 0x00 }
      trace := s.trace ++ [.pw .reset 0x00] } := by
  have hw : s.writeReset 0x00 = s.setDsp { s.dsp with st := .boot, resetReg := 0x00 } := by
    simp [State.writeReset, hs, hp]
  rw [exec, execOut, State.byteSource, State.portWrite, hw]
  rfl

/-! ### Runs, put together from their parts -/

namespace State

/-- `n` steps lead from `s` to `t`, whatever is run after them. -/
def Leads (s : State) (n : Nat) (t : State) : Prop :=
  ∀ k, Sys2Proof.core.run (n + k) s = Sys2Proof.core.run k t

theorem Leads.run {s t : State} {n : Nat} (h : s.Leads n t) : Sys2Proof.core.run n s = .next t := h 0

theorem leads_refl (s : State) : s.Leads 0 s := fun k => by rw [Nat.zero_add]

/-- What has led to `t` leads on by the turn that stands first in the interleaving there. -/
theorem Leads.turn {s t u : State} {n : Nat} {τ : Turn} {ts : List Turn} (h : s.Leads n t) (ht : t.turns = τ :: ts)
    (hu : ({ t with turns := ts } : State).runTurn τ = .next u) : s.Leads (n + 1) u := by
  intro k
  rw [Nat.add_assoc, h, Nat.add_comm]
  exact run_succ ((step_cons ht).trans hu) k

/-- The host's turn presents a well-formed request to an idle block, which accepts it (R131). -/
theorem Leads.accept {s t : State} {n : Nat} {ws : List Nat} {i : Instr} {ts : List Turn} (h : s.Leads n t)
    (hq : t.seq = .idle) (ht : t.turns = .host ws :: ts) (hd : decodeRequest ws = .ok i) (hw : i.wf t.cfg = true) :
    s.Leads (n + 1) (({ t with turns := ts } : State).accept i.code i.operands (State.latch i)) :=
  h.turn ht ((hostTurn_request (s := { t with turns := ts }) hd hw).trans
    (exec_request_idle (level_of_decodeRequest hd) hq))

/-- The sequencer of a built block is BUSY, with the micro-operations `us` of its listing still to come (R24, R135). -/
structure Running (s : State) (us : List Instr) : Prop where
  built : s.Built
  busy : s.seq = .busy
  rest : (Microcode.listing s.cfg s.sel).drop s.upc = us

/-- What is to come of a listing depends on the parameters, `SEL` and `UPC` alone: `n` entries on it is `n` entries
shorter. -/
theorem Running.drop {s t : State} {us : List Instr} (h : s.Running us) (n : Nat) (hc : t.cfg = s.cfg)
    (hu : t.ucode = s.ucode) (hq : t.seq = s.seq) (hs : t.sel = s.sel) (hp : t.upc = s.upc + n) :
    t.Running (us.drop n) where
  built := h.built.congr hc hu
  busy := hq.trans h.busy
  rest := by rw [hc, hs, hp, ← List.drop_drop, h.rest]

/-- The sequencer fetches the first of the micro-operations to come. -/
theorem Running.fetchInstr {s : State} {i : Instr} {us : List Instr} (h : s.Running (i :: us)) :
    s.fetchInstr = some i := by
  rw [fetchInstr_built h.built.2, ← Nat.add_zero s.upc, ← List.getElem?_drop, h.rest]
  rfl

/-- The sequencer's turn runs the first of the micro-operations to come. -/
theorem Leads.micro {s t u : State} {n : Nat} {i : Instr} {us : List Instr} {ts : List Turn} (h : s.Leads n t)
    (hr : t.Running (i :: us)) (ht : t.turns = .sequencer :: ts) (he : exec i { t with turns := ts } = .next u) :
    s.Leads (n + 1) u :=
  h.turn ht ((sequencerTurn_fetched (s := { t with turns := ts }) hr.busy hr.fetchInstr).trans he)

/-! ### `READBYTE` and `WRITEBYTE` (R119) -/

/-- `READBYTE d` with a byte available takes it (R119, R152, R154). -/
theorem Leads.readByte {s t : State} {n : Nat} {d : InDest} {us : List Instr} {ts : List Turn} (h : s.Leads n t)
    (hr : t.Running (Microcode.readByte d ++ us)) (ht : t.turns = .sequencer :: .sequencer :: ts)
    (hs : t.dsp.st ≠ .unknown) (ha : t.dsp.avail = true) :
    ∃ (x : Byte) (xs : List Byte) (k : Nat), x.getLsbD 7 = true ∧ s.Leads (n + 2) { t with
      turns := ts, draws := xs, tick := k, upc := t.upc + 2, polls := 0, dsp := { t.dsp with avail := false }
      v := if d = .v then t.dsp.latch else t.v, maj := if d = .maj then t.dsp.latch else t.maj
      min := if d = .min then t.dsp.latch else t.min
      trace := t.trace ++ [.pr .rstatus x, .pr .rdata t.dsp.latch] } := by
  obtain ⟨x, xs, k, hx, hpoll⟩ := exec_pollRd_available (s := { t with turns := .sequencer :: ts }) hs ha
  refine ⟨x, xs, k, hx, (h.micro hr ht hpoll).micro (hr.drop 1 rfl rfl rfl rfl rfl) rfl ?_⟩
  rw [exec_inp, readRdata_available]
  case hs => exact hs
  case ha => exact ha
  simp [setDsp]

/-- A READY DSP that is not busy takes a byte: it draws its busy bit and parses the byte (R266). -/
theorem writeWdata_ready {s : State} {y : Byte} {ys : List Byte} (hs : s.dsp.st = .ready) (hb : s.dsp.busy = false)
    (hd : s.draws = y :: ys) (x : Byte) : s.writeWdata x =
      ({ s with draws := ys, dsp := { s.dsp with wdataReg := x, busy := drawnBit y } } : State).dspParse x := by
  have hd' : (s.setDsp { s.dsp with wdataReg := x }).draws = y :: ys := hd
  refine (if_pos ⟨hs, hb⟩).trans ?_
  rw [draw_cons hd']
  rfl

/-- `WRITEBYTE src` to a READY DSP that is not busy has the byte parsed (R119, R151, R153). -/
theorem Leads.writeByte {s t : State} {n : Nat} {src : ByteSource} {us : List Instr} {ts : List Turn} {y z : Byte}
    {ds : List Byte} (h : s.Leads n t) (hr : t.Running (Microcode.writeByte src ++ us))
    (ht : t.turns = .sequencer :: .sequencer :: ts) (hs : t.dsp.st = .ready) (hb : t.dsp.busy = false)
    (hd : t.draws = y :: z :: ds) :
    s.Leads (n + 2) (((({ t with
      turns := ts, draws := ds, upc := t.upc + 1, polls := 0, trace := t.trace ++ [.pr .wstatus (statusByte false y)]
      dsp := { t.dsp with wdataReg := t.byteSource src, busy := drawnBit z } } : State).dspParse
        (t.byteSource src)).emit (.pw .wdata (t.byteSource src))).advance) := by
  have hpoll := exec_pollWr_ready (s := { t with turns := .sequencer :: ts }) hs hb hd
  refine (h.micro hr ht hpoll).micro (hr.drop 1 rfl rfl rfl rfl rfl) rfl ?_
  rw [exec, execOut, portWrite, writeWdata_ready]
  case hs => exact hs
  case hb => exact hb
  case hd => rfl
  cases src <;> rfl

/-! ### `DSP_RESET` (R173, R175) -/

/-- The reset pulse: 1, a delay that is long enough, 0 (R175 (a)). -/
theorem Leads.pulse {s t : State} {n d : Nat} {us : List Instr} {ts : List Turn} (h : s.Leads n t)
    (hr : t.Running (.out .reset (.imm 0x01) :: .delay d :: .out .reset (.imm 0x00) :: us))
    (ht : t.turns = .sequencer :: .sequencer :: .sequencer :: ts) (hd : t.cfg.resetPulseMinUs ≤ d) :
    s.Leads (n + 3) { t with
      turns := ts, upc := t.upc + 3, polls := 0, dsp := t.dsp.pulsed
      trace := t.trace ++ [.pw .reset 0x01, .dly d, .pw .reset 0x00] } := by
  have hhold := h.micro hr ht (exec_out_reset_hold _)
  have hdelay := hhold.micro (hr.drop 1 rfl rfl rfl rfl rfl) rfl (exec_delay_held rfl hd)
  have hboot := hdelay.micro (hr.drop 2 rfl rfl rfl rfl rfl) rfl (exec_out_reset_boot rfl rfl)
  simpa [Dsp.pulsed] using hboot

/-- A DSP in BOOT with no byte available presents the ready byte (R267). -/
theorem Leads.presentReady {s t : State} {n : Nat} {ts : List Turn} (h : s.Leads n t)
    (ht : t.turns = .dsp .presentReady :: ts) (hs : t.dsp.st = .boot) (ha : t.dsp.avail = false) :
    s.Leads (n + 1) { t with turns := ts, dsp := t.dsp.readied } :=
  h.turn ht (congrArg Host.Outcome.next (if_pos ⟨hs, ha⟩))

/-- R8: an admitted block's reset pulse is long enough. -/
theorem Built.pulse_le {s : State} (h : s.Built) : s.cfg.resetPulseMinUs ≤ s.cfg.resetPulseUs := by
  have hok := h.1
  simp only [Config.ok, Bool.and_eq_true, decide_eq_true_eq] at hok
  simp [hok]

/-- The run of `DSP_RESET` in which the DSP presents the ready byte at its first boot step. -/
theorem Built.leads_reset {s : State} (hb : s.Built) (hq : s.seq = .idle) {ts : List Turn}
    (ht : s.turns = [.host [0x01], .sequencer, .sequencer, .sequencer, .dsp .presentReady, .sequencer, .sequencer,
      .sequencer, .sequencer] ++ ts) :
    ∃ (x : Byte) (xs : List Byte) (k : Nat), x.getLsbD 7 = true ∧ s.Leads 9 { s with
      seq := .idle, sel := 0x01, upc := 6, polls := 0, retries := 0, resp := .ok, turns := ts, draws := xs
      tick := k, v := 0xAA, dsp := { s.dsp.pulsed.readied with avail := false }
      trace := s.trace ++ [.req 0x01 [], .pw .reset 0x01, .dly s.cfg.resetPulseUs, .pw .reset 0x00, .pr .rstatus x,
        .pr .rdata 0xAA, .rsp .ok] } := by
  have haccept := s.leads_refl.accept (i := .dspReset) hq ht rfl rfl
  have hpulse := haccept.pulse ⟨hb, rfl, rfl⟩ rfl hb.pulse_le
  have hready := hpulse.presentReady rfl rfl rfl
  obtain ⟨x, xs, k, hx, hbyte⟩ := hready.readByte (d := .v) ⟨hb, rfl, rfl⟩ rfl (by simp [Dsp.readied]) rfl
  refine ⟨x, xs, k, hx, ?_⟩
  have hequal := hbyte.micro ⟨hb, rfl, rfl⟩ rfl (exec_bneV_equal rfl 3)
  have hend := hequal.micro ⟨hb, rfl, rfl⟩ rfl (exec_endOp .ok _)
  simpa [accept, State.latch, finish, endResponse, Dsp.readied, Instr.code, Instr.operands] using hend

end State

/-- Settles O55: the host, the reset pulse, the DSP's ready byte, `READBYTE V`, `BNE_V` on the expected byte,
`END OK`. -/
theorem resetRunReadiesDsp : Obligations.ResetRunReadiesDsp := by
  intro s ts hb hq ht
  obtain ⟨x, xs, k, hx, h⟩ := hb.leads_reset hq ht
  exact ⟨_, h.run, rfl, rfl, ⟨rfl, rfl, rfl, rfl, rfl, rfl⟩, rfl, ⟨x, hx, rfl⟩,
    fun hf => ⟨List.cons_ne_nil _ _, ⟨_, rfl, rfl⟩, rfl, hf⟩, rfl, rfl, rfl, rfl, rfl, rfl⟩

/-! ### `DSP_QUERY_VERSION` (R176, R181) -/

namespace State

/-- `GET_VERSION` taken by a DSP with nothing pending queues the two bytes drawn (R270). -/
theorem dspParse_getVersion {s : State} {maj min : Byte} {ds : List Byte} (hc : s.dsp.cmd = none)
    (ho : s.dsp.out = []) (hd : s.draws = maj :: min :: ds) :
    s.dspParse 0xE1 = { s with draws := ds, dsp := { s.dsp with out := [maj, min] } } := by
  simp [dspParse, hc, dspVersion, draw, hd, ho, setDsp]

/-- `WRITEBYTE #0xE1` to a ready DSP queues the version it draws, major first (R176, R270). -/
theorem Leads.getVersion {s t : State} {n : Nat} {us : List Instr} {ts : List Turn} {d0 d1 maj min : Byte}
    {ds : List Byte} (h : s.Leads n t) (hr : t.Running (Microcode.writeByte (.imm 0xE1) ++ us))
    (ht : t.turns = .sequencer :: .sequencer :: ts) (hready : ReadyDsp t.dsp)
    (hd : t.draws = d0 :: d1 :: maj :: min :: ds) :
    s.Leads (n + 2) { t with
      turns := ts, draws := ds, upc := t.upc + 2, polls := 0
      dsp := { t.dsp with wdataReg := 0xE1, busy := drawnBit d1, out := [maj, min] }
      trace := t.trace ++ [.pr .wstatus (statusByte false d0), .pw .wdata 0xE1] } := by
  obtain ⟨hst, hcmd, hout, -, hbusy, -⟩ := hready
  have hwrite := h.writeByte hr ht hst hbusy hd
  rw [byteSource, dspParse_getVersion (maj := maj) (min := min) (ds := ds)] at hwrite
  case hc => exact hcmd
  case ho => exact hout
  case hd => rfl
  simpa [emit, advance] using hwrite

/-- A READY DSP with bytes queued and none available presents the next (R269). -/
theorem Leads.presentOutput {s t : State} {n : Nat} {ts : List Turn} {x : Byte} {xs : List Byte} (h : s.Leads n t)
    (ht : t.turns = .dsp .presentOutput :: ts) (hs : t.dsp.st = .ready) (ha : t.dsp.avail = false)
    (ho : t.dsp.out = x :: xs) :
    s.Leads (n + 1) { t with turns := ts, dsp := { t.dsp with latch := x, out := xs, avail := true } } := by
  refine h.turn ht ?_
  simp [runTurn, dspMove, ho, hs, ha, setDsp]

/-- The run of `DSP_QUERY_VERSION` with a ready DSP that draws the version `maj`, `min`. -/
theorem Built.leads_version {s : State} (hb : s.Built) (hq : s.seq = .idle) (hr : ReadyDsp s.dsp) {ts : List Turn}
    {d0 d1 maj min : Byte} {ds : List Byte} (hd : s.draws = d0 :: d1 :: maj :: min :: ds)
    (ht : s.turns = [.host [0x02], .sequencer, .sequencer, .dsp .presentOutput, .sequencer, .sequencer,
      .dsp .presentOutput, .sequencer, .sequencer, .sequencer, .sequencer] ++ ts) :
    ∃ (w x y : Byte) (xs : List Byte) (k : Nat), s.Leads 11 { s with
      seq := .idle, sel := 0x02, upc := 7, polls := 0, retries := 0, resp := .version maj min, turns := ts
      draws := xs, tick := k, maj := maj, min := min
      dsp := { s.dsp with wdataReg := 0xE1, busy := drawnBit d1, latch := min }
      trace := s.trace ++ [.req 0x02 [], .pr .wstatus w, .pw .wdata 0xE1, .pr .rstatus x, .pr .rdata maj,
        .pr .rstatus y, .pr .rdata min, .logVersion maj min, .rsp (.version maj min)] } := by
  have ⟨hst, _, hout, havail, _, _⟩ := hr
  have hne : s.dsp.st ≠ .unknown := by simp [hst]
  have haccept := s.leads_refl.accept (i := .dspQueryVersion) hq ht rfl rfl
  have hwrite := haccept.getVersion ⟨hb, rfl, rfl⟩ rfl hr hd
  obtain ⟨x, _, _, -, hmaj⟩ := (hwrite.presentOutput rfl hst havail rfl).readByte (d := .maj) ⟨hb, rfl, rfl⟩
    rfl hne rfl
  obtain ⟨y, xs, k, -, hmin⟩ := (hmaj.presentOutput rfl hst rfl rfl).readByte (d := .min) ⟨hb, rfl, rfl⟩
    rfl hne rfl
  have hlog := hmin.micro ⟨hb, rfl, rfl⟩ rfl (exec_log_version _)
  have hend := hlog.micro ⟨hb, rfl, rfl⟩ rfl (exec_endOp .ver _)
  refine ⟨statusByte false d0, x, y, xs, k, ?_⟩
  simpa [accept, State.latch, finish, endResponse, Instr.code, Instr.operands, hout, havail] using hend

end State

/-- Settles O56: the host, `WRITEBYTE #0xE1`, the two bytes presented and read, `LOG VERSION`, `END VER`. -/
theorem versionRunReadsMajorFirst : Obligations.VersionRunReadsMajorFirst := by
  intro s ts d0 d1 d2 d3 maj min ds hb hq hr hd1 hd ht
  obtain ⟨w, x, y, xs, k, h⟩ := hb.leads_version hq hr hd ht
  obtain ⟨hst, hcmd, hout, havail, -, hsess⟩ := hr
  exact ⟨_, h.run, rfl, rfl, rfl, rfl, ⟨hst, hcmd, hout, havail, hd1, hsess⟩, by simp, by simp, by simp⟩

end Sys2Proof.Machine
end

section
/-! PROOF. The DMA Channel Controller's micro-operations (spec/43_dma_channel.md R202 to R210): the region check, the
lock, and the channel operations under it. -/

namespace Sys2Proof.Machine

/-! ### `CHK_DMA` (R202) -/

/-- What `CHK_DMA` refuses (R202, R77). -/
theorem regionBad_iff {c : Config} {ch : ChanNo} {paddr cnt : Nat} : regionBad c ch paddr cnt = true ↔
    3 < ch.toNat ∨ cnt < 1 ∨ 65536 < cnt ∨ 2 ^ c.paddrWidth < paddr + cnt ∨ 65536 < paddr % 65536 + cnt := by
  simp [regionBad, or_assoc]

theorem exec_chkDma_pass {s : State} (h : ¬ regionBad s.cfg s.ch s.paddr s.cnt.toNat = true) :
    exec .chkDma s = .next s.advance :=
  congrArg Host.Outcome.next (if_neg h)

theorem exec_chkDma_fault {s : State} (h : regionBad s.cfg s.ch s.paddr s.cnt.toNat = true) :
    exec .chkDma s = .next (s.raise .dmaRange (.region s.ch s.paddr s.cnt)) :=
  congrArg Host.Outcome.next (if_pos h)

/-- Settles O29: the region is bad or not, and the two clauses say which. -/
theorem chkDmaChecksRegion : Obligations.ChkDmaChecksRegion := by
  intro s
  by_cases h : regionBad s.cfg s.ch s.paddr s.cnt.toNat = true
  · refine ⟨_, exec_chkDma_fault h, fun _ _ _ _ _ => ?_, fun _ => rfl⟩
    rw [regionBad_iff] at h
    omega
  · exact ⟨_, exec_chkDma_pass h, fun _ _ _ _ _ => rfl, fun hbad => absurd (regionBad_iff.mpr hbad) h⟩

/-! ### The lock (R203, R204) -/

theorem exec_dmaLock_free {s : State} (h : s.lock = .free) :
    exec .dmaLock s = .next (({ s with lock := .seq } : State).emit (.dma .lock)).advance := by
  simp only [exec, execDmaLock, h]

theorem exec_dmaLock_other {s : State} (h : s.lock = .other) : exec .dmaLock s = .next s := by
  simp only [exec, execDmaLock, h]

theorem exec_dmaLock_held {s : State} (h : s.lock = .seq) :
    exec .dmaLock s = .next (s.raise .lockState (.lock .seq)) := by
  simp only [exec, execDmaLock, h]

theorem exec_dmaUnlock_held {s : State} (h : s.lock = .seq) :
    exec .dmaUnlock s = .next (({ s with lock := .free } : State).emit (.dma .unlock)).advance := by
  rw [exec, execDmaUnlock, State.underLock_held h]

theorem exec_dmaUnlock_not_held {s : State} (h : s.lock ≠ .seq) :
    exec .dmaUnlock s = .next (s.raise .lockState (.lock s.lock)) := by
  rw [exec, execDmaUnlock, State.underLock_not_held h]

/-- Settles O30, by who holds the lock. -/
theorem lockTakenAndReleased : Obligations.LockTakenAndReleased := by
  intro s
  have hlock : s.lock = .seq ∨ s.lock = .free ∨ s.lock = .other := by cases s.lock <;> simp
  rcases hlock with h | h | h
  · exact ⟨_, _, exec_dmaLock_held h, exec_dmaUnlock_held h, by simp [h], by simp [h], fun _ => rfl, fun _ => rfl,
      absurd h⟩
  · exact ⟨_, _, exec_dmaLock_free h, exec_dmaUnlock_not_held (by simp [h]), fun _ => rfl, by simp [h], by simp [h],
      by simp [h], fun _ => rfl⟩
  · exact ⟨_, _, exec_dmaLock_other h, exec_dmaUnlock_not_held (by simp [h]), by simp [h], fun _ => rfl, by simp [h],
      by simp [h], fun _ => rfl⟩

/-! ### The channel operations (R205 to R210) -/

namespace State

/-- The machine after a micro-operation that has set the registers of channel `CH` and advanced (R205 to R210). -/
def channelSet (s : State) (c : Channel) (op : DmaOp) : State := ((s.setChannel s.ch c).emit (.dma op)).advance

theorem channelSet_same {s : State} {c : Channel} (h : s.channel? s.ch = some c) (c' : Channel) (op : DmaOp) :
    (s.channelSet c' op).channel? s.ch = some c' :=
  channel?_setChannel_same s c' (toNat_lt_of_channel? h)

theorem channelSet_other (s : State) (c : Channel) (op : DmaOp) (h : ChanNo) (hn : h ≠ s.ch) :
    (s.channelSet c op).channel? h = s.channel? h :=
  channel?_setChannel_other s c hn

theorem channelSet_frame (s : State) (c : Channel) (op : DmaOp) : s.channelSet c op = { s with
    channels := (s.channelSet c op).channels, upc := s.upc + 1, polls := 0, trace := s.trace ++ [.dma op] } := rfl

/-- To clear a latch that is cleared changes nothing. -/
theorem clearFf_of_cleared {s : State} (h : s.ff = .cleared) : ({ s with ff := .cleared } : State) = s := by
  rw [← h]

end State

theorem exec_dmaClearFf {s : State} (hk : s.lock = .seq) : exec .dmaClearFf s =
    .next (({ s with ff := .cleared } : State).emit (.dma (.clrff s.ch))).advance := by
  rw [exec, execDmaClearFf, State.underLock_held hk]

section
variable {s : State} {c : Channel} (hk : s.lock = .seq) (hc : s.channel? s.ch = some c)
include hk hc

theorem exec_dmaDisable : exec .dmaDisable s = .next (s.channelSet { c with mask := true } (.disable s.ch)) := by
  rw [exec, execDmaDisable, State.underLock_held hk, State.updateChannel_some hc]
  rfl

theorem exec_dmaSetMode :
    exec .dmaSetMode s = .next (s.channelSet { c with mode := .singleM2D } (.mode s.ch .singleM2D)) := by
  rw [exec, execDmaSetMode, State.underLock_held hk, State.updateChannel_some hc]
  rfl

theorem exec_dmaEnable : exec .dmaEnable s = .next (s.channelSet { c with mask := false } (.enable s.ch)) := by
  rw [exec, execDmaEnable, State.underLock_held hk, State.updateChannel_some hc]
  rfl

variable (hf : s.ff = .cleared)
include hf

theorem exec_dmaSetAddr :
    exec .dmaSetAddr s = .next (s.channelSet { c with addr := s.paddr, xfer := 0 } (.addr s.ch s.paddr)) := by
  rw [exec, execDmaSetAddr, State.underLock_held hk, State.withClearedFf_cleared hf, State.updateChannel_some hc,
    State.clearFf_of_cleared (s := s.setChannel s.ch { c with addr := s.paddr, xfer := 0 }) hf]
  rfl

theorem exec_dmaSetCount :
    exec .dmaSetCount s = .next (s.channelSet { c with count := s.cnt.toNat, xfer := 0 } (.count s.ch s.cnt)) := by
  rw [exec, execDmaSetCount, State.underLock_held hk, State.withClearedFf_cleared hf, State.updateChannel_some hc,
    State.clearFf_of_cleared (s := s.setChannel s.ch { c with count := s.cnt.toNat, xfer := 0 }) hf]
  rfl

end

/-- Settles O31: the lock test passes, and each operation sets its register of channel `CH`. -/
theorem channelOperationsUnderLock : Obligations.ChannelOperationsUnderLock := by
  intro s hk
  refine ⟨⟨_, exec_dmaClearFf hk, rfl⟩, fun c hc => ⟨?disable, ?enable, ?setMode⟩⟩
  case disable =>
    exact ⟨_, exec_dmaDisable hk hc, s.channelSet_same hc _ _, s.channelSet_other _ _, s.channelSet_frame _ _⟩
  case enable =>
    exact ⟨_, exec_dmaEnable hk hc, s.channelSet_same hc _ _, s.channelSet_other _ _, s.channelSet_frame _ _⟩
  case setMode =>
    exact ⟨_, exec_dmaSetMode hk hc, s.channelSet_same hc _ _, s.channelSet_other _ _, s.channelSet_frame _ _⟩

/-- Settles O32: both tests pass, and the address or the count is set with `XFER`. -/
theorem addressAndCountSet : Obligations.AddressAndCountSet := by
  intro s c hk hf hc
  constructor
  · exact ⟨_, exec_dmaSetAddr hk hc hf, s.channelSet_same hc _ _, s.channelSet_other _ _, s.channelSet_frame _ _⟩
  · exact ⟨_, exec_dmaSetCount hk hc hf, s.channelSet_same hc _ _, s.channelSet_other _ _, s.channelSet_frame _ _⟩

end Sys2Proof.Machine
end

section
/-! PROOF. The order of the channel operations in the listings, and the lock's discipline (spec/43_dma_channel.md
R211 to R213): the sequencer holds the lock exactly across them, with the latch cleared where it must be. -/

namespace Sys2Proof.Machine

open State (underLockOp checkedOp reconfiguringOp)

/-! ### The channel operations in the order of the listings -/

/-- What `follows` says of the channel operations, rule by rule: which entry stands before one. -/
structure ChannelOrder (i j : Instr) : Prop where
  lock : underLockOp (some j) = true ↔ i = .dmaLock ∨ underLockOp (some i) = true ∧ i ≠ .dmaUnlock
  latch : j = .dmaSetMode ∨ j = .dmaSetAddr ∨ j = .dmaSetCount → i = .dmaClearFf ∨ i = .dmaSetMode ∨ i = .dmaSetAddr
  check : checkedOp (some j) = true → i = .chkDma ∨ checkedOp (some i) = true
  mask : reconfiguringOp (some j) = true → i = .dmaDisable ∨ reconfiguringOp (some i) = true ∧ i ≠ .dmaEnable
  addr : j = .dmaSetAddr → i = .dmaSetMode
  count : j = .dmaSetCount → i = .dmaSetAddr
  enable : j = .dmaEnable → i = .dmaSetCount

theorem channelOrder_of_follows {i j : Instr} (h : follows i j = true) : ChannelOrder i j := by
  simp only [follows, Bool.and_eq_true] at h
  obtain ⟨⟨⟨⟨⟨⟨⟨-, hlock⟩, hlatch⟩, hcheck⟩, hmask⟩, haddr⟩, hcount⟩, henable⟩ := h
  rw [beq_iff_eq] at hlock
  exact
    { lock := by simp [hlock]
      latch := by simpa [imp_iff_not_or, or_assoc, and_assoc] using hlatch
      check := by simpa [imp_iff_not_or] using hcheck
      mask := by simpa [imp_iff_not_or] using hmask
      addr := by simpa [imp_iff_not_or] using haddr
      count := by simpa [imp_iff_not_or] using hcount
      enable := by simpa [imp_iff_not_or] using henable }

theorem checkedOp_of_underLockOp {o : Option Instr} (h : underLockOp o = true) : checkedOp o = true := by
  unfold checkedOp
  split
  · rfl
  · rfl
  · exact h

theorem underLockOp_of_reconfiguringOp {o : Option Instr} (h : reconfiguringOp o = true) : underLockOp o = true := by
  unfold reconfiguringOp at h
  split at h
  case h_6 => cases h
  all_goals rfl

/-- From an operation that needs the region checked, or to one, the sequencer goes by an advance to an entry that may
follow, or is held at a `DMA_LOCK` while the lock is another's. -/
theorem MicroStep.checked_next {s t : State} {i : Instr} (h : MicroStep s i t) (hi : s.current = some i)
    (hb : s.seq = .busy) (ht : t.seq = .busy) (hc : checkedOp (some i) = true ∨ checkedOp t.current = true) :
    (i = .dmaLock ∧ t.current = some .dmaLock ∧ t.lock = s.lock) ∨ ∃ j, t.current = some j ∧ ChannelOrder i j := by
  rcases h.current_next hi hb ht with ⟨-, e, hk⟩ | ⟨j, -, e, hf⟩ | ⟨_, rfl, -, -, e⟩ | ⟨rfl, -, -, -, e⟩ <;>
    rw [e] at hc
  case inl =>
    rcases hk with rfl | rfl | ⟨rfl, hk⟩ | rfl
    case inr.inr.inl => exact .inl ⟨rfl, e, hk⟩
    all_goals rcases hc with hc | hc <;> cases hc
  case inr.inl => exact .inr ⟨j, e, channelOrder_of_follows hf⟩
  all_goals rcases hc with hc | hc <;> cases hc

/-! ### The lock and the latch under a micro-operation -/

/-- A micro-operation that does not fault leaves the lock, or is the taking or the release of it (R203, R204). -/
theorem MicroStep.lock {s t : State} {i : Instr} (h : MicroStep s i t) (ht : t.seq ≠ .halted) :
    (t.lock = s.lock ∧ i ≠ .dmaUnlock ∧ (i = .dmaLock → t = s)) ∨ (i = .dmaLock ∧ t.lock = .seq) ∨
      (i = .dmaUnlock ∧ t.lock = .free) := by
  cases h
  case lockTaken => exact .inr (.inl ⟨rfl, rfl⟩)
  case unlock => exact .inr (.inr ⟨rfl, rfl⟩)
  case lockHold => exact .inl ⟨rfl, nofun, fun _ => rfl⟩
  case pollWrFault | pollRdFault | bneFault | chkCntFault | chkDmaFault | lockTwice | notLocked | notCleared =>
    exact absurd rfl ht
  all_goals simp

/-- A micro-operation leaves the latch, or clears it (R206, R208, R209). -/
theorem MicroStep.ff {s t : State} {i : Instr} (h : MicroStep s i t) : t.ff = s.ff ∨ t.ff = .cleared := by
  cases h
  case clearFf | setAddr | setCount => exact .inr rfl
  all_goals simp

/-- A `DMA_CLEAR_FF` that does not fault leaves the latch cleared (R206). -/
theorem MicroStep.clearFf_ff {s t : State} (h : MicroStep s .dmaClearFf t) (ht : t.seq ≠ .halted) :
    t.ff = .cleared := by
  cases h with
  | clearFf => rfl
  | notLocked | notCleared => exact absurd rfl ht

/-! ### The discipline under a micro-operation (R211 to R213) -/

namespace State

/-- At a micro-operation the sequencer holds the lock if and only if it is one that needs it. -/
theorem LockHeld.holds_iff {s : State} (h : s.LockHeld) (hb : s.seq = .busy) {i : Instr} (hi : s.current = some i) :
    s.lock = .seq ↔ underLockOp (some i) = true := hi ▸ h.busy_iff hb

/-- A block that is neither BUSY nor IDLE with the lock meets the discipline. -/
theorem LockHeld.of_not_busy {s : State} (hb : s.seq ≠ .busy) (hi : s.seq = .idle → s.lock ≠ .seq) : s.LockHeld :=
  ⟨fun h => absurd h hb, hi, fun h => absurd h hb⟩

/-- At an entry that needs no lock, with the lock not the sequencer's, the discipline holds. -/
theorem LockHeld.of_not_held {s : State} (hn : underLockOp s.current = false) (hk : s.lock ≠ .seq) : s.LockHeld where
  busy_iff _ := by simp [hn, hk]
  idle_ne _ := hk
  ff_cleared := by
    rintro - (e | e | e) <;> rw [e] at hn <;> cases hn

/-- Another agent keeps the discipline if it neither takes the lock from the sequencer nor gives it, and leaves the
latch while the sequencer holds it. -/
theorem LockHeld.of_same_holder {s t : State} (h : s.LockHeld) (hq : t.seq = s.seq) (hc : t.current = s.current)
    (hk : t.lock = .seq ↔ s.lock = .seq) (hf : s.lock = .seq → t.ff = s.ff) : t.LockHeld where
  busy_iff hb := by rw [hk, hc]; exact h.busy_iff (hq ▸ hb)
  idle_ne hi := by rw [Ne, hk]; exact h.idle_ne (hq ▸ hi)
  ff_cleared hb ho := by
    rw [hq] at hb
    rw [hc] at ho
    have hlock : s.lock = .seq := (h.busy_iff hb).mpr (by rcases ho with e | e | e <;> rw [e] <;> rfl)
    rw [hf hlock]
    exact h.ff_cleared hb ho

end State

section
variable {s t : State} {i : Instr} (h : MicroStep s i t) (hi : s.current = some i) (hb : s.seq = .busy)
  (hl : s.LockHeld)
include h hi hb hl

/-- After an advance between channel operations the sequencer holds the lock if it has just taken it, or held it and has
not just released it. -/
theorem MicroStep.lock_iff_of_order {j : Instr} (ht : t.seq = .busy) (hj : t.current = some j)
    (ho : ChannelOrder i j) : t.lock = .seq ↔ underLockOp (some j) = true := by
  rw [ho.lock, ← hl.holds_iff hb hi]
  rcases h.lock (by simp [ht]) with ⟨e, hu, hd⟩ | ⟨rfl, e⟩ | ⟨rfl, e⟩ <;> rw [e]
  · have hne : i ≠ .dmaLock := by
      rintro rfl
      obtain rfl := hd rfl
      obtain rfl : Instr.dmaLock = j := Option.some.inj (hi.symm.trans hj)
      exact absurd (ho.lock.mpr (.inl rfl)) (by decide)
    simp [hu, hne]
  · simp
  · simp

/-- After a micro-operation that goes on the sequencer holds the lock if and only if the next one needs it. -/
theorem MicroStep.lock_iff (ht : t.seq = .busy) : t.lock = .seq ↔ underLockOp t.current = true := by
  have hs := hl.holds_iff hb hi
  by_cases hc : checkedOp (some i) = true ∨ checkedOp t.current = true
  · rcases h.checked_next hi hb ht hc with ⟨rfl, e, hk⟩ | ⟨j, e, ho⟩
    · rw [e, hk]
      exact hs
    · rw [e]
      exact h.lock_iff_of_order hi hb hl ht e ho
  · rw [not_or] at hc
    obtain ⟨hi', ht'⟩ := hc
    have hlock : t.lock = s.lock := by
      rcases h.lock (by simp [ht]) with ⟨e, -⟩ | ⟨rfl, -⟩ | ⟨rfl, -⟩
      · exact e
      · exact absurd rfl hi'
      · exact absurd rfl hi'
    rw [hlock, hs]
    exact iff_of_false (mt checkedOp_of_underLockOp hi') (mt checkedOp_of_underLockOp ht')

/-- A micro-operation that ends its listing is none that holds the lock. -/
theorem MicroStep.lock_ne_of_idle (ht : t.seq = .idle) : t.lock ≠ .seq := by
  have hend : (∃ src, i = .endOp src) ∨ i = .chkSpace := by
    obtain ⟨-, -, -, h' | ⟨-, h' | ⟨h', -⟩⟩ | ⟨h', -⟩ | ⟨h', -⟩ | ⟨h', -⟩ | ⟨h', -⟩⟩ := h.control hb
    case inr.inl.inl => exact .inl h'
    case inr.inl.inr => exact .inr h'
    all_goals rw [ht] at h'; cases h'
  have hs : s.lock ≠ .seq := by
    rw [Ne, hl.holds_iff hb hi]
    rcases hend with ⟨_, rfl⟩ | rfl <;> exact Bool.false_ne_true
  rcases h.lock (by simp [ht]) with ⟨e, -⟩ | ⟨rfl, -⟩ | ⟨-, e⟩
  · rwa [e]
  · rcases hend with ⟨_, h'⟩ | h' <;> cases h'
  · simp [e]

/-- The latch is cleared where the mode, the address or the count is set next: `DMA_CLEAR_FF` has cleared it, and the
lock has kept it (R212). -/
theorem MicroStep.ff_cleared (ht : t.seq = .busy) (ho : t.current = some .dmaSetMode ∨ t.current = some .dmaSetAddr
    ∨ t.current = some .dmaSetCount) : t.ff = .cleared := by
  have hc : checkedOp t.current = true := by rcases ho with e | e | e <;> rw [e] <;> rfl
  rcases h.checked_next hi hb ht (.inr hc) with ⟨rfl, e, -⟩ | ⟨j, e, hord⟩
  · simp [e] at ho
  · simp only [e, Option.some.injEq] at ho
    rcases hord.latch ho with rfl | hi'
    · exact h.clearFf_ff (by simp [ht])
    · have hff : s.ff = .cleared := hl.ff_cleared hb (by rcases hi' with rfl | rfl <;> simp [hi])
      rcases h.ff with e' | e'
      · rw [e', hff]
      · exact e'

theorem MicroStep.lockHeld : t.LockHeld :=
  ⟨h.lock_iff hi hb hl, h.lock_ne_of_idle hi hb hl, h.ff_cleared hi hb hl⟩

end

/-! ### The discipline under every turn -/

namespace State

/-- Another DMA user does nothing while the sequencer has the lock (R282). -/
theorem userMove_of_lock_seq {s : State} (h : s.lock = .seq) (m : UserMove) : s.userMove m = s := by
  cases m <;> simp [userMove, h]

/-- Another DMA user neither takes the lock from the sequencer nor gives it (R282). -/
theorem userMove_lock_seq_iff (s : State) (m : UserMove) : (s.userMove m).lock = .seq ↔ s.lock = .seq := by
  rcases s.userMove_cases m with e | ⟨-, hk, e⟩ | ⟨-, hk, e⟩ | ⟨_, _, _, -, hk, -, -, e⟩ <;> rw [e]
  · simp [hk]
  · simp [hk]
  · simp

/-- Whose turn it is has no part in the discipline. -/
theorem LockHeld.with_turns {s : State} (h : s.LockHeld) (ts : List Turn) (k : Nat) :
    ({ s with turns := ts, tick := k } : State).LockHeld :=
  ⟨h.busy_iff, h.idle_ne, h.ff_cleared⟩

end State

/-- Every turn of a block under control keeps the discipline. -/
theorem TurnStep.lockHeld {s t : State} (h : TurnStep s t) (hc : s.Control) (hl : s.LockHeld) : t.LockHeld := by
  cases h with
  | idle => exact hl
  | micro i _ hb _ hf hm => exact hm.lockHeld (State.current_of_fetchInstr hc hf) hb hl
  | accepted sel _ _ hq hsel _ _ e =>
    obtain ⟨i, hi, -, -, hn, -⟩ := Microcode.listing_head s.cfg hsel
    rw [e]
    exact .of_not_held ((congrArg underLockOp hi).trans hn) (hl.idle_ne hq)
  | concurrent | reserved => exact .of_not_busy nofun nofun
  | dsp _ _ hd =>
    rw [State.dspMove_frame hd]
    exact hl.of_same_holder rfl rfl .rfl fun _ => rfl
  | user m =>
    have hcur : (s.userMove m).current = s.current := by rw [State.userMove_frame]; rfl
    exact hl.of_same_holder (by rw [State.userMove_frame]) hcur (s.userMove_lock_seq_iff m)
      fun hk => by rw [State.userMove_of_lock_seq hk]

/-! ### No fault of the lock or the latch (R211, R212) -/

namespace State

/-- From `s` to `t` no fault of the lock or the latch has been recorded. -/
def NoLockFault (s t : State) : Prop :=
  t.fault = s.fault ∨ (t.fault ≠ some .lockState ∧ t.fault ≠ some .flipFlopNotCleared)

end State

/-- Under the discipline no micro-operation faults on the lock or the latch. -/
theorem MicroStep.noLockFault {s t : State} {i : Instr} (h : MicroStep s i t) (hi : s.current = some i)
    (hb : s.seq = .busy) (hl : s.LockHeld) : s.NoLockFault t := by
  have hs := hl.holds_iff hb hi
  cases h
  case lockTwice hk => exact absurd (hs.mp hk) (by decide)
  case notLocked _ hk hu => exact absurd (hs.mpr hu) hk
  case notCleared _ _ hff ho => exact absurd (hl.ff_cleared hb (by rcases ho with rfl | rfl <;> simp [hi])) hff
  case pollWrFault | pollRdFault | bneFault | chkCntFault | chkDmaFault => exact .inr ⟨nofun, nofun⟩
  all_goals exact .inl (by simp)

/-- Under the discipline no turn faults on the lock or the latch. -/
theorem TurnStep.noLockFault {s t : State} (h : TurnStep s t) (hc : s.Control) (hl : s.LockHeld) :
    s.NoLockFault t := by
  cases h with
  | idle => exact .inl rfl
  | micro i _ hb _ hf hm => exact hm.noLockFault (State.current_of_fetchInstr hc hf) hb hl
  | accepted _ _ _ _ _ _ _ e => rw [e]; exact .inl rfl
  | concurrent | reserved => exact .inr ⟨nofun, nofun⟩
  | dsp _ _ hd => rw [State.dspMove_frame hd]; exact .inl rfl
  | user m => rw [State.userMove_frame]; exact .inl rfl

/-- Settles O48: each turn keeps the discipline and records no fault of the lock or the latch. -/
theorem lockDisciplineKept : Obligations.LockDisciplineKept := by
  intro s t hc hl h
  obtain ⟨ts, k, ht⟩ := step_turn h
  have hc' := hc.with_turns ts k
  have hl' := hl.with_turns ts k
  exact ⟨ht.lockHeld hc' hl', fun _ hne => (ht.noLockFault hc' hl').resolve_left hne⟩

end Sys2Proof.Machine
end

section
/-! PROOF. The DMA region's invariant (spec/43_dma_channel.md R202, R214, spec/20_memory.md R77): what the sequencer
programs channel `CH` with, and what every step keeps of it. -/

namespace Sys2Proof.Machine

open State (underLockOp checkedOp reconfiguringOp)

/-! ### What a micro-operation programs -/

/-- The registers of channel `CH` after a micro-operation that did not fault (R205 to R210). -/
def State.programs (s : State) (c : Channel) : Instr → Channel
  | .dmaDisable => { c with mask := true }
  | .dmaSetMode => { c with mode := .singleM2D }
  | .dmaSetAddr => { c with addr := s.paddr, xfer := 0 }
  | .dmaSetCount => { c with count := s.cnt.toNat, xfer := 0 }
  | .dmaEnable => { c with mask := false }
  | _ => c

/-- Only `DMA_ENABLE` takes a channel's mask away (R210). -/
theorem State.programs_mask {s : State} {c : Channel} {i : Instr} (hi : i ≠ .dmaEnable) (hc : c.mask = true) :
    (s.programs c i).mask = true := by
  unfold programs
  split
  case h_5 => exact absurd rfl hi
  case h_1 => rfl
  all_goals exact hc

/-- A micro-operation sets the registers it programs of channel `CH`, or leaves the channels: because it faults, or
because it programs none. -/
theorem MicroStep.programmed {s t : State} {i : Instr} (h : MicroStep s i t) :
    (t.channels = s.channels ∧ (t.seq = .halted ∨ ∀ c, s.programs c i = c)) ∨
      ∃ c, s.channel? s.ch = some c ∧ t.channels = (s.setChannel s.ch (s.programs c i)).channels := by
  cases h
  case disable c _ hc | setMode c _ hc | enable c _ hc | setAddr c _ _ hc | setCount c _ _ hc => exact .inr ⟨c, hc, rfl⟩
  case pollWrFault | pollRdFault | bneFault | chkCntFault | chkDmaFault | lockTwice | notLocked | notCleared =>
    exact .inl ⟨by simp, .inl rfl⟩
  all_goals exact .inl ⟨by simp, .inr fun _ => rfl⟩

/-- After a micro-operation channel `CH` has the registers it programs, or those it had if it faulted. -/
theorem MicroStep.channel?_ch {s t : State} {i : Instr} (h : MicroStep s i t) {c' : Channel}
    (hc' : t.channel? s.ch = some c') :
    ∃ c, s.channel? s.ch = some c ∧ (t.seq = .halted ∧ c' = c ∨ c' = s.programs c i) := by
  rcases h.programmed with ⟨e, hp⟩ | ⟨c, hc, e⟩ <;> rw [State.channel?_congr e] at hc'
  · exact ⟨c', hc', hp.imp (⟨·, rfl⟩) fun hp => (hp c').symm⟩
  · rw [State.channel?_setChannel_same s _ (State.toNat_lt_of_channel? hc)] at hc'
    exact ⟨c, hc, .inr (Option.some.inj hc').symm⟩

/-- A micro-operation leaves every channel but `CH`. -/
theorem MicroStep.channel?_other {s t : State} {i : Instr} (h : MicroStep s i t) {ch : ChanNo} (hn : ch ≠ s.ch) :
    t.channel? ch = s.channel? ch := by
  rcases h.programmed with ⟨e, -⟩ | ⟨c, -, e⟩ <;> rw [State.channel?_congr e]
  exact State.channel?_setChannel_other s _ hn

/-- Of the micro-operations `LOAD_TRIG` alone writes `CH`, `PADDR` or `CNT` (R246). -/
theorem MicroStep.operands {s t : State} {i : Instr} (h : MicroStep s i t) (hi : i ≠ .loadTrig) :
    t.ch = s.ch ∧ t.paddr = s.paddr ∧ t.cnt = s.cnt := by
  cases h
  case loadTrig => exact absurd rfl hi
  all_goals simp

/-- A `CHK_DMA` that goes on has found the region good (R202). -/
theorem MicroStep.chkDma_passed {s t : State} (h : MicroStep s .chkDma t) (ht : t.seq ≠ .halted) :
    regionBad s.cfg s.ch s.paddr s.cnt.toNat = false := by
  cases h with
  | chkDmaPass hr => exact hr
  | chkDmaFault | notLocked | notCleared => exact absurd rfl ht

/-! ### The invariant's parts -/

/-- What is true of channel `CH` before an operation `o` of its programming with the address `paddr` and the count
`cnt`: it stays masked, and what has been set is set. -/
structure Channel.Programmed (c : Channel) (o : Option Instr) (paddr cnt : Nat) : Prop where
  mask : reconfiguringOp o = true → c.mask = true
  mode : o = some .dmaSetAddr ∨ o = some .dmaSetCount ∨ o = some .dmaEnable → c.mode = .singleM2D
  addr : o = some .dmaSetCount ∨ o = some .dmaEnable → c.addr = paddr
  count : o = some .dmaEnable → c.count = cnt

namespace State

/-- The region in `CH`, `PADDR`, `CNT` passes the check of `CHK_DMA` (R202, R77). -/
def RegionChecked (s : State) : Prop :=
  s.ch.toNat ≤ 3 ∧ 1 ≤ s.cnt.toNat ∧ s.cnt.toNat ≤ 65536 ∧ s.regionInside s.paddr s.cnt.toNat

theorem regionChecked_iff {s : State} : s.RegionChecked ↔ regionBad s.cfg s.ch s.paddr s.cnt.toNat = false := by
  rw [← Bool.not_eq_true, regionBad_iff, RegionChecked, regionInside]
  omega

theorem RegionChecked.congr {s t : State} (h : s.RegionChecked) (hcfg : t.cfg = s.cfg) (hch : t.ch = s.ch)
    (hp : t.paddr = s.paddr) (hn : t.cnt = s.cnt) : t.RegionChecked := by
  rw [regionChecked_iff] at h ⊢
  rw [hcfg, hch, hp, hn]
  exact h

/-- A channel is masked, or is in single-cycle memory-to-device mode with a region R77 admits (R47, R275). -/
def Admits (s : State) (c : Channel) : Prop := c.mask = false → c.mode = .singleM2D ∧ s.regionInside c.addr c.count

theorem Admits.congr {s t : State} {c : Channel} (h : s.Admits c) (hcfg : t.cfg = s.cfg) : t.Admits c := by
  unfold Admits regionInside at h ⊢
  rw [hcfg]
  exact h

theorem admits_of_masked {s : State} {c : Channel} (h : c.mask = true) : s.Admits c := fun hm => by simp [h] at hm

/-- The invariant, part by part: the region checked, channel `CH` as it is programmed, channel `DMA_CH` admitted. -/
theorem region_iff {s : State} : s.Region ↔
    (s.seq = .busy → checkedOp s.current = true → s.RegionChecked) ∧
    (s.seq = .busy → ∀ c, s.channel? s.ch = some c → c.Programmed s.current s.paddr s.cnt.toNat) ∧
    (∀ c, s.channel? s.cfg.dmaCh = some c → s.Admits c) where
  mp h := ⟨h.checked, fun hb c hc => ⟨fun ho => h.masked hb ho c hc, fun ho => h.mode_set hb ho c hc,
    fun ho => h.addr_set hb ho c hc, fun ho => h.count_set hb ho c hc⟩, h.enabled⟩
  mpr := fun ⟨hchecked, hprog, hadm⟩ => ⟨hchecked, fun hb ho c hc => (hprog hb c hc).mask ho,
    fun hb ho c hc => (hprog hb c hc).mode ho, fun hb ho c hc => (hprog hb c hc).addr ho,
    fun hb ho c hc => (hprog hb c hc).count ho, hadm⟩

end State

/-- Before an entry that needs no lock nothing has to be set. -/
theorem Channel.programmed_of_not_underLockOp {o : Option Instr} (h : underLockOp o = false) (c : Channel)
    (paddr cnt : Nat) : c.Programmed o paddr cnt where
  mask ho := by simp [underLockOp_of_reconfiguringOp ho] at h
  mode := by rintro (rfl | rfl | rfl) <;> cases h
  addr := by rintro (rfl | rfl) <;> cases h
  count := by rintro rfl; cases h

/-- Each operation sets what the next one finds set (R205 to R210, R214). -/
theorem State.programs_programmed {s : State} {c : Channel} {i j : Instr}
    (h : c.Programmed (some i) s.paddr s.cnt.toNat) (ho : ChannelOrder i j) :
    (s.programs c i).Programmed (some j) s.paddr s.cnt.toNat where
  mask hj := by
    rcases ho.mask hj with rfl | ⟨hi, hne⟩
    · rfl
    · exact programs_mask hne (h.mask hi)
  mode := by
    simp only [Option.some.injEq]
    rintro (e | e | e)
    · obtain rfl := ho.addr e
      rfl
    · obtain rfl := ho.count e
      exact h.mode (.inl rfl)
    · obtain rfl := ho.enable e
      exact h.mode (.inr (.inl rfl))
  addr := by
    simp only [Option.some.injEq]
    rintro (e | e)
    · obtain rfl := ho.count e
      rfl
    · obtain rfl := ho.enable e
      exact h.addr (.inl rfl)
  count := by
    simp only [Option.some.injEq]
    intro e
    obtain rfl := ho.enable e
    rfl

/-- A channel stays admitted as it is programmed: masked until it is enabled, and then set to the checked region. -/
theorem State.programs_admitted {s : State} {c : Channel} {i : Instr} (hi : checkedOp (some i) = true → s.RegionChecked)
    (h : c.Programmed (some i) s.paddr s.cnt.toNat) (ha : s.Admits c) : s.Admits (s.programs c i) := by
  unfold programs
  split
  case h_1 => exact admits_of_masked rfl
  case h_2 | h_3 | h_4 => exact admits_of_masked (h.mask rfl)
  case h_5 =>
    intro _
    obtain ⟨-, -, -, hin⟩ := hi rfl
    rw [h.mode (by simp), h.addr (by simp), h.count rfl]
    exact ⟨rfl, hin⟩
  case h_6 => exact ha

/-! ### The invariant under a micro-operation -/

section
variable {s t : State} {i : Instr} (h : MicroStep s i t) (hi : s.current = some i) (hb : s.seq = .busy)
  (hr : s.Region)
include h hi hb hr

/-- After a micro-operation that goes on to one that needs the region checked, it is: by a `CHK_DMA` that passed, or
before, and nothing has written it since (R202). -/
theorem MicroStep.regionChecked (ht : t.seq = .busy) (ho : checkedOp t.current = true) : t.RegionChecked := by
  have hcfg := (h.control hb).1
  have hs : i ≠ .loadTrig ∧ s.RegionChecked := by
    rcases h.checked_next hi hb ht (.inr ho) with ⟨rfl, -, -⟩ | ⟨j, e, hord⟩
    · exact ⟨nofun, hr.checked hb (by rw [hi]; rfl)⟩
    · rcases hord.check (e ▸ ho) with rfl | hc
      · exact ⟨nofun, State.regionChecked_iff.mpr (h.chkDma_passed (by simp [ht]))⟩
      · exact ⟨(by rintro rfl; cases hc), hr.checked hb (hi ▸ hc)⟩
  obtain ⟨hch, hp, hn⟩ := h.operands hs.1
  exact hs.2.congr hcfg hch hp hn

/-- After a micro-operation that goes on channel `CH` is programmed as far as the next one needs it (R214). -/
theorem MicroStep.programmed_next (ht : t.seq = .busy) {c' : Channel} (hc' : t.channel? t.ch = some c') :
    c'.Programmed t.current t.paddr t.cnt.toNat := by
  by_cases hu : underLockOp t.current = true
  · rcases h.checked_next hi hb ht (.inr (checkedOp_of_underLockOp hu)) with ⟨-, e, -⟩ | ⟨j, e, hord⟩
    · rw [e] at hu
      cases hu
    · have hload : i ≠ .loadTrig := by
        rintro rfl
        rcases hord.lock.mp (e ▸ hu) with h' | ⟨h', -⟩ <;> cases h'
      obtain ⟨hch, hp, hn⟩ := h.operands hload
      rw [hch] at hc'
      obtain ⟨c, hc, ⟨ht', -⟩ | rfl⟩ := h.channel?_ch hc'
      · simp [ht] at ht'
      rw [e, hp, hn]
      obtain ⟨-, hprog, -⟩ := State.region_iff.mp hr
      exact State.programs_programmed (hi ▸ hprog hb c hc) hord
  · exact Channel.programmed_of_not_underLockOp (by simpa using hu) _ _ _

/-- A micro-operation leaves channel `DMA_CH` admitted. -/
theorem MicroStep.admitted {c' : Channel} (hc' : t.channel? s.cfg.dmaCh = some c') : s.Admits c' := by
  obtain ⟨hchecked, hprog, hadm⟩ := State.region_iff.mp hr
  by_cases hch : s.cfg.dmaCh = s.ch
  · rw [hch] at hc' hadm
    obtain ⟨c, hc, ⟨-, rfl⟩ | rfl⟩ := h.channel?_ch hc'
    · exact hadm c' hc
    · exact State.programs_admitted (hi ▸ hchecked hb) (hi ▸ hprog hb c hc) (hadm c hc)
  · exact hadm c' ((h.channel?_other hch).symm.trans hc')

theorem MicroStep.region : t.Region :=
  State.region_iff.mpr ⟨h.regionChecked hi hb hr, fun ht _ hc => h.programmed_next hi hb hr ht hc, fun c hc => by
    have hcfg := (h.control hb).1
    rw [hcfg] at hc
    exact (h.admitted hi hb hr hc).congr hcfg⟩

end

/-! ### The invariant under every turn -/

/-- A channel keeps its mode, address and count, and its mask if it has one. -/
structure Channel.Kept (c c' : Channel) : Prop where
  mask : c.mask = true → c'.mask = true
  mode : c'.mode = c.mode
  addr : c'.addr = c.addr
  count : c'.count = c.count

theorem Channel.Kept.refl (c : Channel) : c.Kept c := ⟨id, rfl, rfl, rfl⟩

/-- A channel that moves a byte keeps its program (R275, R278). -/
theorem Channel.kept_moved (c : Channel) : c.Kept c.moved where
  mask h := by simp [moved, h]
  mode := rfl
  addr := rfl
  count := rfl

theorem Channel.Programmed.kept {c c' : Channel} {o : Option Instr} {paddr cnt : Nat} (h : c.Programmed o paddr cnt)
    (hk : c.Kept c') : c'.Programmed o paddr cnt where
  mask ho := hk.mask (h.mask ho)
  mode ho := hk.mode.trans (h.mode ho)
  addr ho := hk.addr.trans (h.addr ho)
  count ho := hk.count.trans (h.count ho)

namespace State

theorem Admits.kept {s : State} {c c' : Channel} (h : s.Admits c) (hk : c.Kept c') : s.Admits c' := by
  intro hm
  rw [hk.mode, hk.addr, hk.count]
  refine h ?_
  rw [← Bool.not_eq_true]
  intro hc
  simp [hk.mask hc] at hm

/-- Channel `ch` keeps its program from `s` to `t`. -/
def ChannelKept (s t : State) (ch : ChanNo) : Prop :=
  ∀ c', t.channel? ch = some c' → ∃ c, s.channel? ch = some c ∧ c.Kept c'

theorem ChannelKept.of_eq {s t : State} {ch : ChanNo} (h : t.channel? ch = s.channel? ch) : s.ChannelKept t ch :=
  fun c hc => ⟨c, h ▸ hc, .refl c⟩

/-- Another agent keeps the invariant if channel `DMA_CH` keeps its program, and channel `CH` while the sequencer has
the lock. -/
theorem Region.of_channels_kept {s t : State} (h : s.Region) (hl : s.LockHeld) (hq : t.seq = s.seq)
    (hc : t.current = s.current) (hcfg : t.cfg = s.cfg) (hch : t.ch = s.ch) (hp : t.paddr = s.paddr)
    (hn : t.cnt = s.cnt) (hkept : s.lock = .seq → s.ChannelKept t s.ch) (hdma : s.ChannelKept t s.cfg.dmaCh) :
    t.Region := by
  obtain ⟨hchecked, hprog, hadm⟩ := region_iff.mp h
  refine region_iff.mpr ⟨fun hb ho => ?_, fun hb c' hc' => ?_, fun c' hc' => ?_⟩
  · exact (hchecked (hq ▸ hb) (hc ▸ ho)).congr hcfg hch hp hn
  · rw [hc, hp, hn]
    rw [hq] at hb
    by_cases hu : underLockOp s.current = true
    · obtain ⟨c, hcs, hk⟩ := hkept ((hl.busy_iff hb).mpr hu) c' (hch ▸ hc')
      exact (hprog hb c hcs).kept hk
    · exact Channel.programmed_of_not_underLockOp (by simpa using hu) _ _ _
  · obtain ⟨c, hcs, hk⟩ := hdma c' (hcfg ▸ hc')
    exact ((hadm c hcs).kept hk).congr hcfg

/-- A block about to run nothing that needs a checked region keeps the invariant with its channels. -/
theorem Region.of_unchecked {s t : State} (h : s.Region) (hn : t.seq = .busy → checkedOp t.current = false)
    (hcfg : t.cfg = s.cfg) (hch : t.channels = s.channels) : t.Region := by
  obtain ⟨-, -, hadm⟩ := region_iff.mp h
  refine region_iff.mpr ⟨fun hb ho => ?_, fun hb c' _ => ?_, fun c hc => ?_⟩
  · simp [hn hb] at ho
  · have hu := mt checkedOp_of_underLockOp (Bool.not_eq_true _ ▸ hn hb)
    exact Channel.programmed_of_not_underLockOp (by simpa using hu) _ _ _
  · rw [hcfg, channel?_congr hch] at hc
    exact (hadm c hc).congr hcfg

/-- A step of the DSP's own keeps every channel's program (R275). -/
theorem dspMove_channelKept {s t : State} {m : DspMove} (h : s.dspMove m = .next t) (ch : ChanNo) :
    s.ChannelKept t ch := by
  rcases dspMove_cases h with ⟨e, -⟩ | ⟨r, hr, -, -, rfl⟩
  · exact .of_eq (channel?_congr e ch)
  · intro c' hc'
    have e : (s.delivered s.cfg.dmaCh r).channels = (s.setChannel s.cfg.dmaCh r.moved).channels := by
      rw [delivered_frame]
    rw [channel?_congr e, channel?_setChannel] at hc'
    split at hc'
    · rename_i hch
      obtain rfl := Option.some.inj hc'
      exact ⟨r, hch.1 ▸ hr, r.kept_moved⟩
    · exact ⟨c', hc', .refl c'⟩

/-- Another DMA user leaves channel `DMA_CH` (R282). -/
theorem userMove_channel?_dmaCh (s : State) (m : UserMove) :
    (s.userMove m).channel? s.cfg.dmaCh = s.channel? s.cfg.dmaCh := by
  rcases s.userMove_cases m with e | ⟨-, -, e⟩ | ⟨-, -, e⟩ | ⟨ff, ch, c, -, -, hne, -, e⟩ <;> rw [e]
  · rfl
  · rfl
  · exact channel?_setChannel_other { s with ff := ff } c hne.symm

end State

/-- Every turn of a block under control and the lock's discipline keeps the region's invariant. -/
theorem TurnStep.region {s t : State} (h : TurnStep s t) (hc : s.Control) (hl : s.LockHeld) (hr : s.Region) :
    t.Region := by
  cases h with
  | idle => exact hr
  | micro i _ hb _ hf hm => exact hm.region (State.current_of_fetchInstr hc hf) hb hr
  | accepted sel _ _ _ hsel _ _ e =>
    obtain ⟨i, hi, -, -, -, hn, -⟩ := Microcode.listing_head s.cfg hsel
    rw [e]
    exact hr.of_unchecked (fun _ => (congrArg checkedOp hi).trans hn) rfl rfl
  | concurrent | reserved => exact hr.of_unchecked nofun rfl rfl
  | dsp _ _ hd =>
    have hkept := State.dspMove_channelKept hd
    rw [State.dspMove_frame hd] at hkept ⊢
    exact hr.of_channels_kept hl rfl rfl rfl rfl rfl rfl (fun _ => hkept _) (hkept _)
  | user m =>
    have hlocked : s.lock = .seq → s.ChannelKept (s.userMove m) s.ch := fun hk => by
      rw [State.userMove_of_lock_seq hk]
      exact .of_eq rfl
    have hdma : s.ChannelKept (s.userMove m) s.cfg.dmaCh := .of_eq (s.userMove_channel?_dmaCh m)
    rw [State.userMove_frame] at hlocked hdma ⊢
    exact hr.of_channels_kept hl rfl rfl rfl rfl rfl rfl hlocked hdma

/-- Settles O50: each turn keeps the region's invariant, and whose turn it is has no part in it. -/
theorem regionKept : Obligations.RegionKept := by
  intro s t hc hl hr h
  obtain ⟨ts, k, ht⟩ := step_turn h
  exact ht.region (hc.with_turns ts k) (hl.with_turns ts k) (hr.with_turns ts k)

end Sys2Proof.Machine
end

section
/-! PROOF. A safe state never stops (spec/43_dma_channel.md R211, R212, spec/45_staging_buffer.md R249,
spec/41_port_io.md R156, spec/20_memory.md R77): what every step keeps of the buffer's fill, and that each agent's turn
answers a state. -/

namespace Sys2Proof.Machine

open State (checkedOp)

/-! ### The buffer's fill under a micro-operation (R241 to R250) -/

/-- A micro-operation leaves the request's bytes, and `OFFSET` too unless it is `ADV` or `OFS_CLR` (R244, R247). -/
theorem MicroStep.fill {s t : State} {i : Instr} (h : MicroStep s i t) : t.k = s.k ∧ t.src = s.src ∧
    (t.offset = s.offset ∨ (i = .adv ∧ t.offset = s.offset + s.acc) ∨ (i = .ofsClr ∧ t.offset = 0)) := by
  cases h
  case adv => exact ⟨rfl, rfl, .inr (.inl ⟨rfl, rfl⟩)⟩
  case ofsClr => exact ⟨rfl, rfl, .inr (.inr ⟨rfl, rfl⟩)⟩
  all_goals simp

/-- In a built block the staging buffer has room for a byte (R8). -/
theorem State.Built.cap_pos {s : State} (h : s.Built) : 0 < s.cfg.cap := by
  have hok := h.1
  simp only [Config.ok, Bool.and_eq_true, decide_eq_true_eq] at hok
  omega

/-- In a built block the staging buffer is inside physical memory (R8). -/
theorem State.Built.buffer_inside {s : State} (h : s.Built) : s.cfg.bufPaddr + s.cfg.cap ≤ 2 ^ s.cfg.paddrWidth := by
  have hok := h.1
  simp only [Config.ok, Bool.and_eq_true, decide_eq_true_eq] at hok
  omega

namespace State

/-- An entry that stands in `SUBMIT` alone, at one index, tells where the sequencer is (R241). -/
theorem submit_entry {s : State} {i : Instr} {n : Nat} (hi : s.current = some i)
    (hn : standsAt s.sel s.upc i = (s.sel == 0x08 && s.upc == n)) : s.sel = 0x08 ∧ s.upc = n := by
  simpa [hn] using (current_placed hi).1

end State

section
variable {s t : State} {i : Instr} (h : MicroStep s i t) (hi : s.current = some i) (hb : s.seq = .busy)
  (hg : s.Staging)
include h hi hb hg

/-- A micro-operation keeps `OFFSET ≤ CAP`: `ADV` adds what `CHK_SPACE` has accepted (R242, R244, R249). -/
theorem MicroStep.offset_le : t.offset ≤ s.cfg.cap := by
  obtain ⟨-, -, e | ⟨rfl, e⟩ | ⟨rfl, e⟩⟩ := h.fill <;> rw [e]
  · exact hg.offset_le
  · obtain ⟨hsel, hupc⟩ := State.submit_entry hi rfl
    obtain ⟨-, -, -, hcopied, -⟩ := hg.submit hb hsel
    exact hcopied hupc
  · exact Nat.zero_le _

/-- Outside `SUBMIT` a micro-operation leaves the buffer with room: only `SUBMIT` fills it (R250). -/
theorem MicroStep.offset_lt_of_other (hsel : s.sel ≠ 0x08) : t.offset < s.cfg.cap := by
  obtain ⟨-, -, e | ⟨rfl, -⟩ | ⟨rfl, -⟩⟩ := h.fill
  · rw [e]
    exact hg.other_lt hb hsel
  · exact absurd (State.submit_entry hi rfl).1 hsel
  · exact absurd (State.submit_entry hi rfl).1 hsel

/-- A listing ends with room in the buffer: `SUBMIT` at its last entry, after `OFS_CLR` or with the buffer not
filled, and its `CHK_SPACE` has found room (R250). -/
theorem MicroStep.offset_lt_of_idle (ht : t.seq = .idle) : t.offset < s.cfg.cap := by
  by_cases hsel : s.sel = 0x08
  · obtain ⟨-, hfree, -⟩ := hg.submit hb hsel
    have hroom : s.offset < s.cfg.cap := by
      obtain ⟨-, -, -, h' | ⟨-, ⟨_, rfl⟩ | ⟨rfl, -⟩⟩ | ⟨h', -⟩ | ⟨h', -⟩ | ⟨h', -⟩ | ⟨h', -⟩⟩ := h.control hb
      case inr.inl.inl => exact hfree (.inr (by simpa [standsAt, hsel] using (State.current_placed hi).1))
      case inr.inl.inr => exact hfree (.inl (State.submit_entry hi rfl).2)
      all_goals rw [ht] at h'; cases h'
    obtain ⟨-, -, e | ⟨rfl, -⟩ | ⟨rfl, e⟩⟩ := h.fill
    · rw [e]; exact hroom
    · cases h <;> simp [hb] at ht
    · rw [e]; omega
  · exact h.offset_lt_of_other hi hb hg hsel

/-- Between `LOAD_TRIG` and `OFS_CLR` the buffer of a `SUBMIT` stays filled (R250). -/
theorem MicroStep.submitAt_trigger (ht : t.seq = .busy) (hsel : s.sel = 0x08) (hlo : 4 ≤ s.upc) (hhi : s.upc ≤ 29) :
    t.SubmitAt := by
  obtain ⟨hsrc, hfree, hroom, hcopied, hfull⟩ := hg.submit hb hsel
  obtain ⟨ek, es, ho⟩ := h.fill
  have hcfg := (h.control hb).1
  have hupc : t.upc = s.upc ∨ t.upc = s.upc + 1 := by
    rcases h.current_next hi hb ht with ⟨e, -⟩ | ⟨_, e, -⟩ | ⟨_, -, e, -⟩ | ⟨-, -, e, -⟩
    · exact .inl e
    · exact .inr e
    · simp [hsel] at e
    · omega
  have hoff : t.offset = s.offset := by
    rcases ho with e | ⟨rfl, -⟩ | ⟨rfl, -⟩
    · exact e
    · have := (State.submit_entry hi rfl).2
      omega
    · have := (State.submit_entry hi rfl).2
      omega
  refine ⟨by rw [ek, es]; exact hsrc, ?_⟩
  rw [hcfg, hoff]
  omega

/-- A micro-operation of `SUBMIT` that goes on leaves the buffer filled as the next entry finds it (R242 to R247). -/
theorem MicroStep.submitAt (hcap : 0 < s.cfg.cap) (ht : t.seq = .busy) (hsel : s.sel = 0x08) : t.SubmitAt := by
  by_cases hmid : 4 ≤ s.upc ∧ s.upc ≤ 29
  · exact h.submitAt_trigger hi hb hg ht hsel hmid.1 hmid.2
  have hle := hg.offset_le
  have hsub := hg.submit hb hsel
  unfold State.SubmitAt at hsub ⊢
  cases h
  case chkSpacePass =>
    have hupc := (State.submit_entry hi rfl).2
    have hk : Nat.min s.k (s.cfg.cap - s.offset) ≤ s.k := Nat.min_le_left _ _
    have hroom : Nat.min s.k (s.cfg.cap - s.offset) ≤ s.cfg.cap - s.offset := Nat.min_le_right _ _
    dsimp [State.advance]
    omega
  case copyLast | copyHold | copyNone | adv | ofsClr =>
    have hupc := (State.submit_entry hi rfl).2
    dsimp [State.advance, State.emit, State.memWrite]
    omega
  case bltBranch | bltFull =>
    have hp := (State.current_placed hi).1
    simp only [standsAt, Bool.and_eq_true, beq_iff_eq] at hp
    dsimp [State.branch, State.advance]
    omega
  case loadTrig => exact absurd (State.submit_entry hi rfl).2 (by omega)
  case bneEqual | bneRetry =>
    have hp := (State.current_placed hi).1
    simp [standsAt, hsel] at hp
  case endOp | chkSpaceFull | pollWrFault | pollRdFault | bneFault | chkCntFault | chkDmaFault | lockTwice | notLocked
      | notCleared => cases ht
  all_goals
    have hp := (State.current_placed hi).1
    simp only [standsAt, hsel, bne_self_eq_false, Bool.false_or, Bool.and_eq_true, decide_eq_true_eq] at hp
    exact absurd ⟨Nat.le_of_succ_le hp.1, hp.2⟩ hmid

/-- A micro-operation keeps the buffer's invariant. -/
theorem MicroStep.staging (hcap : 0 < s.cfg.cap) : t.Staging := by
  obtain ⟨hcfg, -, hsel, -⟩ := h.control hb
  exact
    { offset_le := by rw [hcfg]; exact h.offset_le hi hb hg
      idle_lt := by rw [hcfg]; exact h.offset_lt_of_idle hi hb hg
      other_lt := by rw [hcfg, hsel]; exact fun _ => h.offset_lt_of_other hi hb hg
      submit := by rw [hsel]; exact h.submitAt hi hb hg hcap }

end

/-! ### The buffer's fill under every turn -/

/-- Every turn of a block under control keeps the buffer's invariant. -/
theorem TurnStep.staging {s t : State} (h : TurnStep s t) (hc : s.Control) (hg : s.Staging) : t.Staging := by
  cases h with
  | idle => exact hg
  | micro i _ hb _ hf hm => exact hm.staging (State.current_of_fetchInstr hc hf) hb hg hc.built.cap_pos
  | accepted sel _ _ hq _ _ hsrc e =>
    have hlt := hg.idle_lt hq
    rw [e]
    refine ⟨hg.offset_le, fun _ => hlt, fun _ _ => hlt, fun _ hsel => ⟨hsrc hsel, fun _ => hlt, ?_⟩⟩
    dsimp
    omega
  | concurrent | reserved => exact ⟨hg.offset_le, nofun, nofun, nofun⟩
  | dsp _ _ hd =>
    rw [State.dspMove_frame hd]
    exact ⟨hg.offset_le, hg.idle_lt, hg.other_lt, hg.submit⟩
  | user m =>
    rw [State.userMove_frame]
    exact ⟨hg.offset_le, hg.idle_lt, hg.other_lt, hg.submit⟩

/-! ### Every turn of a safe state answers a state -/

/-- A step answers a next state. -/
def Answers (r : Result) : Prop := ∃ t, r = .next t

theorem answers_next (t : State) : Answers (.next t) := ⟨t, rfl⟩

namespace State

theorem underLock_answers {s : State} {f : State → Result} (h : Answers (f s)) : Answers (s.underLock f) := by
  unfold underLock
  split
  · exact h
  · exact answers_next _

theorem withClearedFf_answers {s : State} {f : State → Result} (h : Answers (f s)) : Answers (s.withClearedFf f) := by
  unfold withClearedFf
  split
  · exact h
  · exact answers_next _

/-- An update of a channel the controller has answers what the rest answers (R44). -/
theorem updateChannel_answers {s : State} (hch : s.ch.toNat ≤ 3) {g : Channel → Channel} {f : State → Result}
    (h : ∀ u, Answers (f u)) : Answers (s.updateChannel g f) := by
  have hsome : (s.channel? s.ch).isSome = true := by rw [channel?_isSome]; exact decide_eq_true (by omega)
  obtain ⟨c, hc⟩ := Option.isSome_iff_exists.mp hsome
  rw [updateChannel_some hc]
  exact h _

/-- At its `COPY` a safe state has the byte, and its place in physical memory (R8, R31, R242, R249). -/
theorem Staging.copy_answers {s : State} (hg : s.Staging) (hc : s.Control) (hb : s.seq = .busy)
    (hi : s.current = some .copy) : Answers (execCopy s) := by
  obtain ⟨hsel, hupc⟩ := submit_entry hi rfl
  obtain ⟨hsrc, -, hcopy, -⟩ := hg.submit hb hsel
  obtain ⟨-, hroom, hacc⟩ := hcopy hupc
  have hbuf := hc.built.buffer_inside
  unfold execCopy
  split
  case isTrue hidx =>
    have hin : s.inMemory (copyAddress s) = true := by
      unfold inMemory copyAddress
      exact decide_eq_true (by omega)
    rw [List.getElem?_eq_getElem (by omega), hin]
    exact answers_next _
  case isFalse => exact answers_next _

/-- The DSP's wired channel is one of the controller's (R8, R44). -/
theorem Built.channel?_dmaCh {s : State} (h : s.Built) : ∃ r, s.channel? s.cfg.dmaCh = some r := by
  have hok := h.1
  simp only [Config.ok, Bool.and_eq_true, decide_eq_true_eq] at hok
  refine Option.isSome_iff_exists.mp ?_
  rw [channel?_isSome]
  exact decide_eq_true (by omega)

/-- An armed channel `DMA_CH` is in the mode of a transfer, and its next byte is in physical memory (R77, R275). -/
theorem Region.armed_inside {s : State} (h : s.Region) {r : Channel} (hr : s.channel? s.cfg.dmaCh = some r)
    (ha : r.armed = true) : r.mode = .singleM2D ∧ r.addr + r.xfer < 2 ^ s.cfg.paddrWidth := by
  simp only [Channel.armed, Bool.and_eq_true, Bool.not_eq_true', decide_eq_true_eq] at ha
  obtain ⟨hmode, hend, -⟩ := h.enabled r hr ha.1
  exact ⟨hmode, by omega⟩

theorem Region.dspTransfer_answers {s : State} (h : s.Region) (hb : s.Built) : Answers s.dspTransfer := by
  obtain ⟨r, hr⟩ := hb.channel?_dmaCh
  by_cases hq : s.mayRequest = true ∧ r.armed = true
  · obtain ⟨hmode, hin⟩ := h.armed_inside hr hq.2
    refine ⟨s.delivered s.cfg.dmaCh r, ?_⟩
    simp only [dspTransfer, hr, hq.1, hq.2, Bool.and_self, if_true, hmode, deliver_next hin]
  · exact ⟨s, dspTransfer_passes hr (by simpa [imp_iff_not_or] using hq)⟩

theorem Built.dspStarve_answers {s : State} (h : s.Built) : Answers s.dspStarve := by
  obtain ⟨r, hr⟩ := h.channel?_dmaCh
  simp only [dspStarve, hr]
  exact answers_next _

end State

/-- A step of the DSP's own answers a state: `DMA_CH` is a channel, and transfers in its mode from physical memory. -/
theorem dspMove_answers {s : State} (h : s.Region) (hb : s.Built) (m : DspMove) : Answers (s.dspMove m) := by
  cases m with
  | transfer => exact h.dspTransfer_answers hb
  | starve => exact hb.dspStarve_answers
  | _ => exact ⟨_, rfl⟩

/-- A request or a reserved selector presented answers a state (R131 to R134). -/
theorem hostTurn_answers (s : State) (ws : List Nat) : Answers (s.hostTurn ws) := by
  unfold State.hostTurn
  split
  case h_1 i hd =>
    split
    · exact ⟨_, exec_request (level_of_decodeRequest hd) s⟩
    · exact answers_next _
  all_goals exact answers_next _

/-- A micro-operation of a safe state answers a state: its channel has passed the check, and its copy is in `BUF`. -/
theorem exec_answers {s : State} {i : Instr} (h : s.Safe) (hb : s.seq = .busy) (hi : s.current = some i) :
    Answers (exec i s) := by
  have hch : checkedOp (some i) = true → s.ch.toNat ≤ 3 := fun ho => (h.region.checked hb (hi ▸ ho)).1
  cases i
  case copy => exact h.staging.copy_answers h.control hb hi
  case dmaUnlock | dmaClearFf =>
    simp only [exec, execDmaUnlock, execDmaClearFf]
    refine State.underLock_answers ?_
    exact answers_next _
  case dmaDisable | dmaSetMode | dmaEnable =>
    simp only [exec, execDmaDisable, execDmaSetMode, execDmaEnable]
    refine State.underLock_answers ?_
    exact State.updateChannel_answers (hch rfl) fun _ => answers_next _
  case dmaSetAddr | dmaSetCount =>
    simp only [exec, execDmaSetAddr, execDmaSetCount]
    refine State.underLock_answers (State.withClearedFf_answers ?_)
    exact State.updateChannel_answers (hch rfl) fun _ => answers_next _
  all_goals exact ⟨_, rfl⟩

theorem sequencerTurn_answers {s : State} (h : s.Safe) : Answers (s.runTurn .sequencer) := by
  by_cases hb : s.seq = .busy
  · obtain ⟨i, hi⟩ := Option.isSome_iff_exists.mp (h.control.at_entry hb)
    have hf : s.fetchInstr = some i := (State.fetchInstr_built h.control.built.2).trans hi
    rw [State.sequencerTurn_fetched hb hf]
    exact exec_answers h hb hi
  · exact ⟨s, State.sequencerTurn_not_busy hb⟩

/-- No agent's turn stops a safe state. -/
theorem runTurn_answers {s : State} (h : s.Safe) (τ : Turn) : Answers (s.runTurn τ) := by
  cases τ with
  | sequencer => exact sequencerTurn_answers h
  | host ws => exact hostTurn_answers s ws
  | dsp m => exact dspMove_answers h.region h.control.built m
  | otherUser m => exact answers_next _

/-! ### Safety -/

/-- Whose turn it is has no part in safety. -/
theorem State.Safe.with_turns {s : State} (h : s.Safe) (ts : List Turn) (k : Nat) :
    ({ s with turns := ts, tick := k } : State).Safe where
  control := h.control.with_turns ts k
  staging := ⟨h.staging.offset_le, h.staging.idle_lt, h.staging.other_lt, h.staging.submit⟩
  lockHeld := h.lockHeld.with_turns ts k
  handshake := h.handshake.of_dsp rfl rfl (.refl _)
  region := h.region.with_turns ts k

/-- Every turn of a safe state leaves it safe. -/
theorem TurnStep.safe {s t : State} (h : TurnStep s t) (hs : s.Safe) : t.Safe where
  control := h.control hs.control
  staging := h.staging hs.control hs.staging
  lockHeld := h.lockHeld hs.control hs.lockHeld
  handshake := h.handshake hs.control hs.handshake
  region := h.region hs.control hs.lockHeld hs.region

/-- Settles O51: whichever turn is taken answers a state, and every invariant is kept. -/
theorem safeNeverStops : Obligations.SafeNeverStops := by
  intro s hs
  have hs' : s.takeTurn.2.Safe := by
    rw [State.takeTurn_frame]
    exact hs.with_turns _ _
  obtain ⟨t, ht⟩ := runTurn_answers hs' s.takeTurn.1
  obtain ⟨ts, k, hstep⟩ := step_turn ht
  exact ⟨t, ht, hstep.safe (hs.with_turns ts k)⟩

end Sys2Proof.Machine
end

section
/-! PROOF. The playback trigger (spec/44_playback_trigger.md R231 to R235): the run of `START_PLAYBACK` to its end, put
together from the host's request, the range checks and the log, the channel's configuration (R201), and the seven bytes
that program the DSP (R178, R180). -/

namespace Sys2Proof.Machine

/-! ### The channel's configuration (R201) -/

/-- A channel armed for a region of `n` bytes at `a`, of which none has moved yet (R205 to R210). -/
def Channel.armedFor (a n : Nat) : Channel := { mask := false, mode := .singleM2D, addr := a, count := n, xfer := 0 }

namespace State

/-- To set a channel to the registers it has changes nothing. -/
theorem setChannel_self {s : State} {ch : ChanNo} {c : Channel} (h : s.channel? ch = some c) :
    s.setChannel ch c = s := by
  obtain ⟨hlt, hget⟩ := Vector.getElem?_eq_some_iff.mp h
  have hset : s.channels.setIfInBounds ch.toNat c = s.channels := by
    ext i hi
    rw [Vector.getElem_setIfInBounds]
    split
    case isTrue he => subst he; exact hget.symm
    case isFalse => rfl
  rw [setChannel, hset]

/-- The machine `k` micro-operations into a configuration from `s`: the sequencer has the lock, and channel `CH` holds
`c` (R201). -/
def configuring (s : State) (k : Nat) (c : Channel) (f : FlipFlop) (es : List Event) (ts : List Turn) : State :=
  { s.setChannel s.ch c with
    lock := .seq, ff := f, upc := s.upc + k, polls := 0, trace := s.trace ++ es, turns := ts }

theorem configuring_channel? {s : State} {c₀ : Channel} (h : s.channel? s.ch = some c₀) (k : Nat) (c : Channel)
    (f : FlipFlop) (es : List Event) (ts : List Turn) :
    (s.configuring k c f es ts).channel? s.ch = some c :=
  channel?_setChannel_same s c (toNat_lt_of_channel? h)

/-- A configuration goes on by the micro-operation that stands at `k` of what was to come where it began. -/
theorem Leads.configuring {s t u : State} {n k : Nat} {i : Instr} {us vs : List Instr} {c : Channel} {f : FlipFlop}
    {es : List Event} {ts : List Turn} (h : s.Leads n (t.configuring k c f es (.sequencer :: ts))) (hr : t.Running us)
    (hi : us.drop k = i :: vs) (he : exec i (t.configuring k c f es ts) = .next u) : s.Leads (n + 1) u := by
  have hk : (t.configuring k c f es (.sequencer :: ts)).Running (us.drop k) := hr.drop k rfl rfl rfl rfl rfl
  exact h.micro (hi ▸ hk) rfl he

/-- A channel operation takes the configuration on to other registers of channel `CH` (R205 to R210). -/
theorem Leads.channelSet {s t : State} {n k : Nat} {i : Instr} {us vs : List Instr} {c c' : Channel} {f : FlipFlop}
    {es : List Event} {ts : List Turn} {op : DmaOp} (h : s.Leads n (t.configuring k c f es (.sequencer :: ts)))
    (hr : t.Running us) (hi : us.drop k = i :: vs)
    (he : exec i (t.configuring k c f es ts) = .next ((t.configuring k c f es ts).channelSet c' op)) :
    s.Leads (n + 1) (t.configuring (k + 1) c' f (es ++ [.dma op]) ts) := by
  have hop := h.configuring hr hi he
  simpa [State.channelSet, State.configuring, emit, advance, setChannel, Nat.add_assoc] using hop

/-- `DMA_CLEAR_FF` takes the configuration on with the latch cleared (R206). -/
theorem Leads.clearFf {s t : State} {n k : Nat} {us vs : List Instr} {c : Channel} {f : FlipFlop}
    {es : List Event} {ts : List Turn} (h : s.Leads n (t.configuring k c f es (.sequencer :: ts))) (hr : t.Running us)
    (hi : us.drop k = .dmaClearFf :: vs) :
    s.Leads (n + 1) (t.configuring (k + 1) c .cleared (es ++ [.dma (.clrff t.ch)]) ts) := by
  have hop := h.configuring hr hi (exec_dmaClearFf rfl)
  simpa [State.configuring, emit, advance, setChannel, Nat.add_assoc] using hop

/-- The events of a channel's configuration, in the order of R201. -/
def configureEvents (ch : ChanNo) (paddr : Nat) (c : Count) : List Event :=
  [.dma .lock, .dma (.disable ch), .dma (.clrff ch), .dma (.mode ch .singleM2D), .dma (.addr ch paddr),
    .dma (.count ch c), .dma (.enable ch), .dma .unlock]

/-- With the lock free, the eight micro-operations of R201 arm channel `CH` for the region and free the lock. -/
theorem Leads.configure {s t : State} {n : Nat} {us : List Instr} {ts : List Turn} {c : Channel} (h : s.Leads n t)
    (hr : t.Running (Microcode.configureBody ++ us)) (ht : t.turns = List.replicate 8 .sequencer ++ ts)
    (hk : t.lock = .free) (hc : t.channel? t.ch = some c) :
    s.Leads (n + 8) { t.setChannel t.ch (.armedFor t.paddr t.cnt.toNat) with
      turns := ts, upc := t.upc + 8, polls := 0, ff := .cleared, lock := .free
      trace := t.trace ++ configureEvents t.ch t.paddr t.cnt } := by
  have hch := configuring_channel? hc
  have hlock : s.Leads (n + 1) (t.configuring 1 c t.ff [.dma .lock] (List.replicate 7 .sequencer ++ ts)) := by
    rw [State.configuring, setChannel_self hc]
    exact h.micro hr ht (exec_dmaLock_free hk)
  have hdisable := hlock.channelSet hr rfl (exec_dmaDisable rfl (hch ..))
  have hclear := hdisable.clearFf hr rfl
  have hmode := hclear.channelSet hr rfl (exec_dmaSetMode rfl (hch ..))
  have haddr := hmode.channelSet hr rfl (exec_dmaSetAddr rfl (hch ..) rfl)
  have hcount := haddr.channelSet hr rfl (exec_dmaSetCount rfl (hch ..) rfl)
  have henable := hcount.channelSet hr rfl (exec_dmaEnable rfl (hch ..))
  have hunlock := henable.configuring hr rfl (exec_dmaUnlock_held rfl)
  simpa [State.configuring, configureEvents, Channel.armedFor, emit, advance, setChannel] using hunlock

end State

/-! ### The bytes a DSP takes (R266, R271, R272) -/

namespace Dsp

/-- What is left of a DSP's state to the parser once a byte is in its WDATA and its busy bit is drawn clear (R266). -/
def written (d : Dsp) (x : Byte) : Dsp := { d with wdataReg := x, busy := false }

/-- Whatever the rest of the machine, the parser makes `d'` of the DSP `d` when it is given the byte `x`. -/
def Parses (d : Dsp) (x : Byte) (d' : Dsp) : Prop := ∀ s : State, s.dsp = d → s.dspParse x = s.setDsp d'

/-- A DSP takes bytes one by one, READY and not busy before each, and never busy after one (R266). -/
inductive Takes : Dsp → List Byte → Dsp → Prop
  | nil (d : Dsp) : Takes d [] d
  | cons {d d' e : Dsp} {x : Byte} {xs : List Byte} (hs : d.st = .ready) (hb : d.busy = false)
      (hx : (d.written x).Parses x d') (h : Takes d' xs e) : Takes d (x :: xs) e

/-- A command byte that takes parameters is kept until they are in (R271, R272). -/
theorem parses_opening {d : Dsp} (hc : d.cmd = none) {x : Byte} (hx : x = 0x41 ∨ x = 0xC0) :
    d.Parses x { d with cmd := some (x, []) } := by
  rintro s rfl
  rcases hx with rfl | rfl <;> simp [State.dspParse, hc]

/-- A parameter byte before the command's last is kept (R271, R272). -/
theorem parses_parameter {d : Dsp} {c : Byte} {ps : List Byte} (hc : d.cmd = some (c, ps))
    (hp : (c = 0x41 ∧ ps.length < 1) ∨ (c = 0xC0 ∧ ps.length < 2)) (x : Byte) :
    d.Parses x { d with cmd := some (c, ps ++ [x]) } := by
  rintro s rfl
  match ps with
  | [] => rcases hp with ⟨rfl, -⟩ | ⟨rfl, -⟩ <;> simp [State.dspParse, hc]
  | [p] =>
    obtain rfl : c = 0xC0 := by simpa using hp
    simp [State.dspParse, hc]
  | _ :: _ :: _ => simp at hp

/-- The second parameter byte completes `SET_OUTPUT_RATE` (R271). -/
theorem parses_rateLow {d : Dsp} {h : Byte} (hc : d.cmd = some (0x41, [h])) (l : Byte) :
    d.Parses l { d with rate := word16 h l, cmd := none } := by
  rintro s rfl
  simp [State.dspParse, hc, State.dspSetRate]

/-- The third parameter byte completes `DMA8_OUTPUT` (R272). -/
theorem parses_countHigh {d : Dsp} {m l : Byte} (hc : d.cmd = some (0xC0, [m, l])) (h : Byte) :
    d.Parses h { d with sess := some { mode := m, len := (word16 h l).toNat + 1, done := 0 }, cmd := none } := by
  rintro s rfl
  simp [State.dspParse, hc, State.dspStart]

theorem Takes.append {d e f : Dsp} {xs ys : List Byte} (h : d.Takes xs e) (h' : e.Takes ys f) :
    d.Takes (xs ++ ys) f := by
  induction h with
  | nil => exact h'
  | cons hs hb hx _ ih => exact .cons hs hb hx (ih h')

/-- A ready DSP takes `SET_OUTPUT_RATE`, the rate's high byte first (R104, R271). -/
theorem takes_rate {d : Dsp} (hs : d.st = .ready) (hb : d.busy = false) (hc : d.cmd = none) (h l : Byte) :
    d.Takes [0x41, h, l] { d with busy := false, cmd := none, rate := word16 h l, wdataReg := l } :=
  have hcmd : (d.written 0x41).cmd = none := hc
  .cons hs hb (parses_opening hcmd (.inl rfl)) <|
    .cons hs rfl (parses_parameter (ps := []) rfl (.inl ⟨rfl, Nat.zero_lt_one⟩) h) <|
    .cons hs rfl (parses_rateLow rfl l) <| .nil _

/-- A ready DSP takes `DMA8_OUTPUT`, the count's low byte first (R104, R272). -/
theorem takes_output {d : Dsp} (hs : d.st = .ready) (hb : d.busy = false) (hc : d.cmd = none) (m l h : Byte) :
    d.Takes [0xC0, m, l, h] { d with
      busy := false, cmd := none, sess := some { mode := m, len := (word16 h l).toNat + 1, done := 0 }
      wdataReg := h } :=
  have hcmd : (d.written 0xC0).cmd = none := hc
  .cons hs hb (parses_opening hcmd (.inr rfl)) <|
    .cons hs rfl (parses_parameter (ps := []) rfl (.inr ⟨rfl, Nat.zero_lt_two⟩) m) <|
    .cons hs rfl (parses_parameter (ps := [m]) rfl (.inr ⟨rfl, Nat.one_lt_two⟩) l) <|
    .cons hs rfl (parses_countHigh rfl h) <| .nil _

/-- A DSP told an output rate, and then a transfer of `n + 1` bytes (R180). -/
def programmed (d : Dsp) (rate : Word16) (mode : Byte) (n : Word16) : Dsp :=
  { d with
    busy := false, cmd := none, rate := rate, sess := some { mode := mode, len := n.toNat + 1, done := 0 }
    wdataReg := hiByte n }

/-- A ready DSP takes the seven bytes of R180. -/
theorem takes_program {d : Dsp} (hs : d.st = .ready) (hb : d.busy = false) (hc : d.cmd = none) (rate : Word16)
    (mode : Byte) (n : Word16) :
    d.Takes [0x41, hiByte rate, loByte rate, 0xC0, mode, loByte n, hiByte n] (d.programmed rate mode n) := by
  have hrate := takes_rate hs hb hc (hiByte rate) (loByte rate)
  have houtput := hrate.append (takes_output (by exact hs) rfl rfl mode (loByte n) (hiByte n))
  simpa [programmed] using houtput

end Dsp

namespace State

/-! ### The bytes that program the DSP (R178, R180) -/

/-- The events of bytes written to the DSP one by one, each after a poll that reads 0 (R119). -/
def writeEvents (xs : List Byte) : List Event := xs.flatMap fun x => [.pr .wstatus 0, .pw .wdata x]

/-- A byte source reads none of the components a `WRITEBYTE` changes (R113). -/
theorem byteSource_update (s : State) (n m : Nat) (d : Dsp) (es : List Event) (ts : List Turn) (ds : List Byte) :
    ({ s with turns := ts, draws := ds, upc := n, polls := m, dsp := d, trace := es } : State).byteSource =
      s.byteSource := by
  funext src
  cases src <;> rfl

/-- `WRITEBYTE src` to a ready DSP whose parser makes `d` of it, and which draws not to be busy (R119, R266). -/
theorem Leads.writeTaken {s t : State} {n : Nat} {src : ByteSource} {us : List Instr} {ts : List Turn}
    {ds : List Byte} {d : Dsp} (h : s.Leads n t) (hr : t.Running (Microcode.writeByte src ++ us))
    (ht : t.turns = .sequencer :: .sequencer :: ts) (hs : t.dsp.st = .ready) (hb : t.dsp.busy = false)
    (hd : t.draws = 0 :: 0 :: ds) (hx : (t.dsp.written (t.byteSource src)).Parses (t.byteSource src) d) :
    s.Leads (n + 2) { t with
      turns := ts, draws := ds, upc := t.upc + 2, polls := 0, dsp := d
      trace := t.trace ++ writeEvents [t.byteSource src] } := by
  have hwrite := h.writeByte hr ht hs hb hd
  rw [hx _ rfl] at hwrite
  simpa [emit, advance, setDsp, statusByte, writeEvents] using hwrite

/-- `WRITEBYTE` of one source after the other, to a DSP that takes the bytes (R119, R266). -/
theorem Leads.writeBytes {s t : State} {n : Nat} {srcs : List ByteSource} {us : List Instr} {ts : List Turn}
    {ds xs : List Byte} {d : Dsp} (h : s.Leads n t) (hr : t.Running (srcs.flatMap Microcode.writeByte ++ us))
    (ht : t.turns = List.replicate (2 * srcs.length) .sequencer ++ ts) (hp : t.polls = 0)
    (hd : t.draws = List.replicate (2 * srcs.length) 0 ++ ds) (hsrc : srcs.map t.byteSource = xs)
    (hx : t.dsp.Takes xs d) :
    s.Leads (n + 2 * srcs.length) { t with
      turns := ts, draws := ds, upc := t.upc + 2 * srcs.length, polls := 0, dsp := d
      trace := t.trace ++ writeEvents xs } := by
  induction srcs generalizing n t xs with
  | nil =>
    subst hsrc
    cases hx
    obtain rfl : t.turns = ts := ht
    obtain rfl : t.draws = ds := hd
    have hself : ({ t with polls := 0 } : State) = t := by rw [← hp]
    simpa [writeEvents, hself] using h
  | cons src srcs ih =>
    subst hsrc
    cases hx with
    | cons hs hb hx hrest =>
      have hall := ih (h.writeTaken hr ht hs hb hd hx) (hr.drop 2 rfl rfl rfl rfl rfl) rfl rfl rfl
        (congrArg (List.map · srcs) (byteSource_update ..)) hrest
      simpa [writeEvents, Nat.mul_add, Nat.add_assoc, Nat.add_comm 2] using hall

/-- The sources of the seven bytes of R178. -/
def programSources : List ByteSource := [.imm 0x41, .rateHi, .rateLo, .imm 0xC0, .modeByte, .cntM1Lo, .cntM1Hi]

/-- The seven bytes of R180, for a rate, a mode and a count minus one. -/
def programBytes (rate : Word16) (mode : Byte) (n : Word16) : List Byte :=
  [0x41, hiByte rate, loByte rate, 0xC0, mode, loByte n, hiByte n]

/-- The fourteen micro-operations of R178 program a ready DSP that is never busy. -/
theorem Leads.program {s t : State} {n : Nat} {us : List Instr} {ts : List Turn} {ds : List Byte} (h : s.Leads n t)
    (hr : t.Running (Microcode.programBody ++ us)) (ht : t.turns = List.replicate 14 .sequencer ++ ts)
    (hp : t.polls = 0) (hd : t.draws = List.replicate 14 0 ++ ds) (hs : t.dsp.st = .ready) (hb : t.dsp.busy = false)
    (hc : t.dsp.cmd = none) :
    s.Leads (n + 14) { t with
      turns := ts, draws := ds, upc := t.upc + 14, polls := 0
      dsp := t.dsp.programmed t.rate t.cfg.modeByte (cntM1 t.cnt)
      trace := t.trace ++ writeEvents (programBytes t.rate t.cfg.modeByte (cntM1 t.cnt)) } :=
  h.writeBytes (srcs := programSources) hr ht hp hd rfl (Dsp.takes_program hs hb hc _ _ _)

/-! ### The trigger (R231) -/

/-- The events of a trigger: the intent, the channel's configuration, the seven bytes to the DSP (R231). -/
def triggerEvents (ch : ChanNo) (paddr : Nat) (c : Count) (rate : Word16) (mode : Byte) : List Event :=
  .logIntent paddr c rate :: configureEvents ch paddr c ++ writeEvents (programBytes rate mode (cntM1 c))

/-- Entries 0 to 24 of R231: the region passes both checks, one intent is logged, channel `CH` is armed for the region,
and then the DSP is started. -/
theorem Leads.trigger {s t : State} {n : Nat} {us : List Instr} {ts : List Turn} {ds : List Byte} {c : Channel}
    (h : s.Leads n t) (hr : t.Running (Microcode.triggerBody ++ us))
    (ht : t.turns = List.replicate 25 .sequencer ++ ts) (hd : t.draws = List.replicate 14 0 ++ ds)
    (hk : t.lock = .free) (hc : t.channel? t.ch = some c) (hready : ReadyDsp t.dsp) (hlo : 1 ≤ t.cnt.toNat)
    (hhi : t.cnt.toNat ≤ 65536) (hmem : t.paddr + t.cnt.toNat ≤ 2 ^ t.cfg.paddrWidth)
    (hpage : t.paddr % 65536 + t.cnt.toNat ≤ 65536) :
    s.Leads (n + 25) { t.setChannel t.ch (.armedFor t.paddr t.cnt.toNat) with
      turns := ts, draws := ds, upc := t.upc + 25, polls := 0, triggers := t.triggers + 1, ff := .cleared
      lock := .free, dsp := t.dsp.programmed t.rate t.cfg.modeByte (cntM1 t.cnt)
      trace := t.trace ++ triggerEvents t.ch t.paddr t.cnt t.rate t.cfg.modeByte } := by
  obtain ⟨hst, hcmd, -, -, hbusy, -⟩ := hready
  have hregion : ¬ regionBad t.cfg t.ch t.paddr t.cnt.toNat = true := by
    have := toNat_lt_of_channel? hc
    rw [regionBad_iff]
    omega
  have hcnt := h.micro hr ht (exec_chkCnt_pass hlo hhi)
  have hdma := hcnt.micro (hr.drop 1 rfl rfl rfl rfl rfl) rfl (exec_chkDma_pass hregion)
  have hlog := hdma.micro (hr.drop 2 rfl rfl rfl rfl rfl) rfl (exec_log_intent _)
  have harmed := hlog.configure (hr.drop 3 rfl rfl rfl rfl rfl) rfl hk hc
  have hstarted := harmed.program (hr.drop 11 rfl rfl rfl rfl rfl) rfl rfl hd hst hbusy hcmd
  simpa [triggerEvents, emit, advance, setChannel] using hstarted

/-- A request and its response are the whole of a program of one request (R141). -/
theorem answered_single (i : Instr) (r : Response) : answered [i] [.req i.code i.operands, .rsp r] = true := by
  simp [answered]

/-- The run of `START_PLAYBACK` with a free lock and a ready DSP that is never busy. -/
theorem Built.leads_playback {s : State} (hb : s.Built) (hq : s.seq = .idle) (hready : ReadyDsp s.dsp)
    (hk : s.lock = .free) {ts : List Turn} {ds : List Byte} {paddr : Nat} {count : Count} {rate : Word16}
    (hlo : 1 ≤ count.toNat) (hhi : count.toNat ≤ 65536) (hmem : paddr + count.toNat ≤ 2 ^ s.cfg.paddrWidth)
    (hpage : paddr % 65536 + count.toNat ≤ 65536) (hd : s.draws = List.replicate 14 0 ++ ds)
    (ht : s.turns = .host [0x07, paddr, count.toNat, rate.toNat] :: List.replicate 26 .sequencer ++ ts) :
    s.Leads 27 { s.setChannel s.cfg.dmaCh (.armedFor paddr count.toNat) with
      seq := .idle, sel := 0x07, upc := 25, polls := 0, retries := 0, resp := .ok, turns := ts, draws := ds
      paddr := paddr, cnt := count, rate := rate, ch := s.cfg.dmaCh, triggers := s.triggers + 1, ff := .cleared
      lock := .free, dsp := s.dsp.programmed rate s.cfg.modeByte (cntM1 count)
      trace := s.trace ++ (.req 0x07 [paddr, count.toNat, rate.toNat] ::
        triggerEvents s.cfg.dmaCh paddr count rate s.cfg.modeByte ++ [.rsp .ok]) } := by
  obtain ⟨c, hc⟩ := hb.channel?_dmaCh
  have hwf : (Instr.startPlayback paddr count rate).wf s.cfg = true := decide_eq_true (by omega)
  have haccept := s.leads_refl.accept hq ht (decode_encode (.startPlayback paddr count rate) nofun) hwf
  have htrigger := haccept.trigger ⟨hb, rfl, rfl⟩ rfl hd hk hc hready hlo hhi hmem hpage
  have hend := htrigger.micro ⟨hb, rfl, rfl⟩ rfl (exec_endOp .ok _)
  simpa [accept, State.latch, finish, endResponse, setChannel, Instr.code, Instr.operands] using hend

end State

/-! ### The bytes as the statement has them (R29, R104) -/

/-- For the counts of R179, `CNTM1` is the count minus one (R29). -/
theorem cntM1_toNat_of_range {c : Count} (hlo : 1 ≤ c.toNat) (hhi : c.toNat ≤ 65536) :
    (cntM1 c).toNat = c.toNat - 1 := by
  have := cntM1_toNat c
  omega

theorem hiByte_eq_ofNat (v : Word16) : hiByte v = BitVec.ofNat 8 (v.toNat / 256) := by
  have := v.isLt
  apply BitVec.eq_of_toNat_eq
  rw [hiByte_toNat, BitVec.toNat_ofNat]
  omega

theorem loByte_eq_ofNat (v : Word16) : loByte v = BitVec.ofNat 8 (v.toNat % 256) := by
  apply BitVec.eq_of_toNat_eq
  rw [loByte_toNat, BitVec.toNat_ofNat]
  omega

/-- Settles O57: the host, then the trigger, which arms channel `DMA_CH` before it starts the DSP, then `END OK`. -/
theorem playbackRunArmsThenStarts : Obligations.PlaybackRunArmsThenStarts := by
  intro s ts paddr count rate ds hb hq hready hk hlo hhi hmem hpage hd ht
  have h := hb.leads_playback hq hready hk hlo hhi hmem hpage hd ht
  have hn := cntM1_toNat_of_range hlo hhi
  obtain ⟨c, hc⟩ := hb.channel?_dmaCh
  refine ⟨_, h.run, rfl, rfl, rfl, rfl, rfl, rfl, rfl, rfl, ?channel, rfl, ?session, ?ends, ?trace⟩
  case channel => exact s.channel?_setChannel_same _ (State.toNat_lt_of_channel? hc)
  case session => simp [Dsp.programmed, hn, Nat.sub_add_cancel hlo]
  case ends =>
    exact fun hf => ⟨List.cons_ne_nil _ _,
      ⟨_, rfl, State.answered_single (.startPlayback paddr count rate) .ok⟩, rfl, hf⟩
  case trace =>
    simp [State.triggerEvents, State.configureEvents, State.writeEvents, State.programBytes, hiByte_eq_ofNat,
      loByte_eq_ofNat, hn]

end Sys2Proof.Machine
end

section
/-! PROOF. The staging buffer (spec/45_staging_buffer.md): its invariant under every step (R249, R250), the state a
block is reset to (R59 to R66), and its micro-operations (R242 to R247). -/

namespace Sys2Proof.Machine

/-! ### The invariant under every step (R249, R250) -/

/-- Whose turn it is has no part in the buffer's invariant. -/
theorem State.Staging.with_turns {s : State} (h : s.Staging) (ts : List Turn) (k : Nat) :
    ({ s with turns := ts, tick := k } : State).Staging :=
  ⟨h.offset_le, h.idle_lt, h.other_lt, h.submit⟩

/-- Settles O47: each turn keeps the buffer's invariant, and whose turn it is has no part in it. -/
theorem stagingKept : Obligations.StagingKept := by
  intro s t hc hg h
  obtain ⟨ts, k, ht⟩ := step_turn h
  exact ht.staging (hc.with_turns ts k) (hg.with_turns ts k)

/-! ### Block reset (R59 to R66) -/

namespace State

theorem built_resetWith {c : Config} (h : c.ok = true) : (resetWith c).Built := ⟨h, rfl⟩

/-- Every channel of a block right after reset is a reset channel (R64). -/
theorem eq_resetChannel {c : Config} {ch : ChanNo} {r : Channel} (h : (resetWith c).channel? ch = some r) :
    r = resetChannel := by
  obtain ⟨hlt, hr⟩ := Vector.getElem?_eq_some_iff.mp h
  rw [← hr]
  exact Vector.getElem_replicate hlt

/-- A block right after reset is idle with an empty buffer, a free lock, a DSP that is UNKNOWN and masked channels. -/
theorem safe_resetWith {c : Config} (h : c.ok = true) : (resetWith c).Safe where
  control := ⟨built_resetWith h, nofun⟩
  staging := ⟨Nat.zero_le _, fun _ => (built_resetWith h).cap_pos, nofun, nofun⟩
  lockHeld := .of_not_busy nofun nofun
  handshake := .of_not_busy nofun nofun
  region := region_iff.mpr ⟨nofun, nofun, fun r hr => admits_of_masked (by rw [eq_resetChannel hr]; rfl)⟩

/-- The values the model gives the registers at reset are in their ranges. -/
theorem inWidth_resetWith (c : Config) : (resetWith c).InWidth where
  mem_wf := .nil
  mem_reset_wf := .nil
  mem_inside := nofun
  paddr_lt := Nat.two_pow_pos _
  acc_le := Nat.zero_le _
  idx_le := Nat.le_refl _
  channels ch r hr := by
    obtain rfl := eq_resetChannel hr
    exact ⟨Nat.two_pow_pos _, by decide, by decide, by decide⟩
  session := nofun

end State

/-- Settles O10: every invariant holds of an idle block with an empty buffer, and the trace has no intent yet. -/
theorem resetIsSafe : Obligations.ResetIsSafe :=
  fun c h => ⟨State.safe_resetWith h, State.inWidth_resetWith c, rfl⟩

/-! ### `CHK_SPACE` (R242) -/

theorem exec_chkSpace_full {s : State} (h : s.cfg.cap ≤ s.offset) :
    exec .chkSpace s = .next (s.finish .outOfSpace) :=
  congrArg Host.Outcome.next (if_pos h)

theorem exec_chkSpace_room {s : State} (h : s.offset < s.cfg.cap) : exec .chkSpace s = .next { s with
    acc := min s.k (s.cfg.cap - s.offset), idx := 0, upc := s.upc + 1, polls := 0 } :=
  congrArg Host.Outcome.next (if_neg (Nat.not_le.mpr h))

/-- Settles O34: the buffer is full or has room, and then `ACC` is the smaller of the two counts. -/
theorem chkSpaceAccepts : Obligations.ChkSpaceAccepts := by
  intro s
  rcases Nat.lt_or_ge s.offset s.cfg.cap with hroom | hfull
  · refine ⟨_, exec_chkSpace_room hroom, fun hfull => absurd hroom hfull.not_gt, fun _ hk => ?_, fun _ hk => ?_⟩
    · rw [min_eq_left hk]
    · rw [min_eq_right hk]
  · exact ⟨_, exec_chkSpace_full hfull, fun _ => rfl, fun hroom => absurd hroom hfull.not_gt,
      fun hroom => absurd hroom hfull.not_gt⟩

/-! ### `COPY` (R243) -/

/-- The machine with a byte copied: stored at `BUF_PADDR + OFFSET + I`, seen by the trace, and counted (R243). -/
def State.copied (s : State) (x : Byte) : State :=
  { s with
    mem := s.mem.write (copyAddress s) x, idx := s.idx + 1
    trace := s.trace ++ [.bufw (s.offset + s.idx) x] }

theorem exec_copy_byte {s : State} {x : Byte} (h : s.idx < s.acc) (hx : s.src[s.idx]? = some x)
    (ha : copyAddress s < 2 ^ s.cfg.paddrWidth) :
    exec .copy s = .next (if s.idx + 1 = s.acc then (s.copied x).advance else s.copied x) := by
  have hin : s.inMemory (copyAddress s) = true := decide_eq_true ha
  simp only [exec, execCopy, if_pos h, hx, if_pos hin]
  rfl

theorem exec_copy_last {s : State} {x : Byte} (h : s.idx + 1 = s.acc) (hx : s.src[s.idx]? = some x)
    (ha : copyAddress s < 2 ^ s.cfg.paddrWidth) : exec .copy s = .next (s.copied x).advance := by
  rw [exec_copy_byte (by omega) hx ha, if_pos h]

theorem exec_copy_hold {s : State} {x : Byte} (h : s.idx + 1 < s.acc) (hx : s.src[s.idx]? = some x)
    (ha : copyAddress s < 2 ^ s.cfg.paddrWidth) : exec .copy s = .next (s.copied x) := by
  rw [exec_copy_byte (by omega) hx ha, if_neg h.ne]

theorem exec_copy_done {s : State} (h : s.acc ≤ s.idx) : exec .copy s = .next s.advance :=
  if_neg (Nat.not_lt.mpr h)

/-- `SRC` has no byte `I` (notes/assumptions/16.md). -/
theorem exec_copy_sourceByte {s : State} (h : s.idx < s.acc) (hx : s.src.length ≤ s.idx) :
    exec .copy s = .fault (.sourceByte s.idx) := by
  simp only [exec, execCopy, if_pos h, List.getElem?_eq_none hx]

/-- The byte's place is no address of physical memory (notes/assumptions/14.md). -/
theorem exec_copy_physicalAddress {s : State} (h : s.idx < s.acc) (hx : s.idx < s.src.length)
    (ha : 2 ^ s.cfg.paddrWidth ≤ copyAddress s) :
    exec .copy s = .fault (.physicalAddress (copyAddress s)) := by
  have hout : ¬ s.inMemory (copyAddress s) = true := by
    simp only [State.inMemory, decide_eq_true_eq]
    exact Nat.not_lt.mpr ha
  simp only [exec, execCopy, if_pos h, List.getElem?_eq_getElem hx, if_neg hout]

/-- Settles O35: a byte is stored, the last one with an advance; or none is left; or one of the two stops. -/
theorem copyStoresOneByte : Obligations.CopyStoresOneByte := by
  intro s
  refine ⟨fun x hlt hx ha => ?_, fun hle => ⟨_, exec_copy_done hle, rfl⟩, exec_copy_sourceByte,
    exec_copy_physicalAddress⟩
  have hsame : (s.copied x).mem.read (copyAddress s) = some x := Memory.read_write_same _ _ _
  have hother : ∀ a, a ≠ copyAddress s → (s.copied x).mem.read a = s.mem.read a :=
    fun _ => Memory.read_write_other _ _
  rcases Nat.eq_or_lt_of_le (Nat.succ_le_of_lt hlt) with hlast | hmore
  · exact ⟨_, exec_copy_last hlast hx ha, hsame, hother, (if_pos hlast).symm, (if_pos hlast).symm, rfl⟩
  · exact ⟨_, exec_copy_hold hmore hx ha, hsame, hother, (if_neg hmore.ne).symm, (if_neg hmore.ne).symm, rfl⟩

/-! ### `ADV`, `BLT_FULL`, `LOAD_TRIG`, `OFS_CLR` (R244 to R247) -/

theorem exec_adv (s : State) : exec .adv s = .next { s with
    offset := s.offset + s.acc, upc := s.upc + 1, polls := 0 } := rfl

theorem exec_bltFull_room {s : State} (h : s.offset < s.cfg.cap) (n : Nat) :
    exec (.bltFull n) s = .next (s.branch n) :=
  congrArg Host.Outcome.next (if_pos h)

theorem exec_bltFull_full {s : State} (h : s.cfg.cap ≤ s.offset) (n : Nat) :
    exec (.bltFull n) s = .next s.advance :=
  congrArg Host.Outcome.next (if_neg (Nat.not_lt.mpr h))

theorem exec_loadTrig (s : State) : exec .loadTrig s = .next { s with
    paddr := s.cfg.bufPaddr, cnt := BitVec.ofNat 17 s.cfg.cap, rate := s.cfg.sampleRate, ch := s.cfg.dmaCh
    upc := s.upc + 1, polls := 0 } := rfl

theorem exec_ofsClr (s : State) : exec .ofsClr s = .next { s with offset := 0, upc := s.upc + 1, polls := 0 } := rfl

/-- R8 bounds `CAP` by 65536, so it fits the count's 17 bits. -/
theorem toNat_ofNat_cap {c : Config} (h : c.ok = true) : (BitVec.ofNat 17 c.cap).toNat = c.cap := by
  simp only [Config.ok, Bool.and_eq_true, decide_eq_true_eq] at h
  rw [BitVec.toNat_ofNat]
  omega

/-- Settles O36, one micro-operation after the other; the buffer is full or has room. -/
theorem stagingOperations : Obligations.StagingOperations := by
  intro s
  refine ⟨⟨_, exec_adv s, rfl⟩, fun n => ?bltFull, fun h => ⟨_, exec_loadTrig s, toNat_ofNat_cap h, rfl⟩,
    ⟨_, exec_ofsClr s, rfl⟩⟩
  case bltFull =>
    rcases Nat.lt_or_ge s.offset s.cfg.cap with hroom | hfull
    · exact ⟨_, exec_bltFull_room hroom n, fun _ => rfl, fun hfull => absurd hroom hfull.not_gt⟩
    · exact ⟨_, exec_bltFull_full hfull n, fun hroom => absurd hroom hfull.not_gt, fun _ => rfl⟩

end Sys2Proof.Machine
end

section
/-! PROOF. The runs of `SUBMIT` (spec/45_staging_buffer.md R241, R248 to R251): the bytes it copies, put together from
the single `COPY`s, and then its end where the buffer is not full, or the trigger where it is. -/

namespace Sys2Proof.Machine

/-! ### Bytes stored one after the other -/

namespace Memory

/-- The memory with bytes written from an address on, in rising order. -/
def writeAll (m : Memory) (a : Nat) : List Byte → Memory
  | [] => m
  | x :: xs => (m.write a x).writeAll (a + 1) xs

/-- Bytes written from an address on leave every byte before and after them. -/
theorem read_writeAll_outside {m : Memory} {a b : Nat} {xs : List Byte} (h : b < a ∨ a + xs.length ≤ b) :
    (m.writeAll a xs).read b = m.read b := by
  induction xs generalizing m a with
  | nil => rfl
  | cons x xs ih =>
    rw [List.length_cons] at h
    rw [writeAll, ih (by omega), read_write_other _ _ (by omega)]

/-- Bytes written from an address on are read back, each at its place. -/
theorem read_writeAll_inside {m : Memory} {a j : Nat} {xs : List Byte} {x : Byte} (h : xs[j]? = some x) :
    (m.writeAll a xs).read (a + j) = some x := by
  induction xs generalizing m a j with
  | nil => cases h
  | cons y xs ih =>
    cases j with
    | zero =>
      obtain rfl : y = x := Option.some.inj h
      rw [writeAll, read_writeAll_outside (by omega)]
      exact read_write_same _ _ _
    | succ j =>
      rw [writeAll, Nat.add_comm j, ← Nat.add_assoc]
      exact ih h

end Memory

/-! ### The copy (R243) -/

namespace State

theorem Leads.of_eq {s t : State} {n m : Nat} (h : s.Leads n t) (hn : n = m) : s.Leads m t := hn ▸ h

/-- The events of bytes copied to the buffer from an offset on (R243). -/
def copyEvents (o : Nat) : List Byte → List Event
  | [] => []
  | x :: xs => .bufw o x :: copyEvents (o + 1) xs

/-- Copying bytes triggers nothing. -/
theorem intents_copyEvents (o : Nat) (xs : List Byte) : intents (copyEvents o xs) = 0 := by
  induction xs generalizing o with
  | nil => rfl
  | cons x xs ih => exact ih (o + 1)

/-- A byte is the next of `SRC` where the bytes to come begin with it. -/
theorem src_next_byte {s : State} {x : Byte} {xs : List Byte} (h : x :: xs <+: s.src.drop s.idx) :
    s.src[s.idx]? = some x := by
  obtain ⟨zs, hzs⟩ := h
  rw [← Nat.add_zero s.idx, ← List.getElem?_drop, ← hzs]
  rfl

/-- `COPY` copies the bytes of `SRC` from `I` up to `ACC`, one in each of the sequencer's turns (R243). -/
theorem Leads.copyBytes {s t : State} {n : Nat} {us : List Instr} {ts : List Turn} {x : Byte} {xs : List Byte}
    (h : s.Leads n t) (hr : t.Running (.copy :: us))
    (ht : t.turns = .sequencer :: (List.replicate xs.length .sequencer ++ ts)) (hacc : t.idx + xs.length + 1 = t.acc)
    (hsrc : x :: xs <+: t.src.drop t.idx) (hin : copyAddress t + xs.length < 2 ^ t.cfg.paddrWidth) :
    s.Leads (n + xs.length + 1) { t with
      turns := ts, upc := t.upc + 1, polls := 0, idx := t.acc, mem := t.mem.writeAll (copyAddress t) (x :: xs)
      trace := t.trace ++ copyEvents (t.offset + t.idx) (x :: xs) } := by
  have hx := src_next_byte hsrc
  induction xs generalizing x n t with
  | nil =>
    have hidx : t.idx + 1 = t.acc := hacc
    have hlast := h.micro hr ht (exec_copy_last (s := { t with turns := ts }) hidx hx hin)
    simpa [copied, copyAddress, advance, Memory.writeAll, copyEvents, hidx] using hlast
  | cons y ys ih =>
    rw [List.length_cons] at hacc hin
    have hmore : t.idx + 1 < t.acc := by omega
    have hplace : copyAddress t < 2 ^ t.cfg.paddrWidth := by omega
    have hrest : y :: ys <+: t.src.drop (t.idx + 1) := by
      rw [← List.drop_drop]
      exact hsrc.drop 1
    have hacc' : t.idx + 1 + ys.length + 1 = t.acc := by omega
    have hin' : t.cfg.bufPaddr + t.offset + (t.idx + 1) + ys.length < 2 ^ t.cfg.paddrWidth := by
      rw [copyAddress] at hin
      omega
    have hhold := h.micro (u := { t.copied x with turns := List.replicate ys.length.succ .sequencer ++ ts }) hr ht
      (exec_copy_hold (s := { t with turns := List.replicate ys.length.succ .sequencer ++ ts }) hmore hx hplace)
    have hall := ih hhold (hr.drop 0 rfl rfl rfl rfl rfl) rfl hacc' hrest hin' (src_next_byte hrest)
    simpa [copied, copyAddress, Memory.writeAll, copyEvents, Nat.add_assoc, Nat.add_comm 1] using hall

/-- The whole of a `COPY`: one turn for each byte, and one turn where there is none (R243). -/
theorem Leads.copy {s t : State} {n : Nat} {us : List Instr} {ts : List Turn} {xs : List Byte} (h : s.Leads n t)
    (hr : t.Running (.copy :: us)) (ht : t.turns = List.replicate (max 1 xs.length) .sequencer ++ ts)
    (hi : t.idx = 0) (hacc : t.acc = xs.length) (hsrc : xs <+: t.src)
    (hin : t.cfg.bufPaddr + t.offset + xs.length ≤ 2 ^ t.cfg.paddrWidth) :
    s.Leads (n + max 1 xs.length) { t with
      turns := ts, upc := t.upc + 1, polls := 0, idx := t.acc
      mem := t.mem.writeAll (t.cfg.bufPaddr + t.offset) xs, trace := t.trace ++ copyEvents t.offset xs } := by
  cases xs with
  | nil =>
    have hnone : t.acc ≤ t.idx := (hacc.trans hi.symm).le
    have hdone := h.micro hr ht (exec_copy_done (s := { t with turns := ts }) hnone)
    simpa [advance, Memory.writeAll, copyEvents, hi, hacc] using hdone
  | cons x xs =>
    have hmax : max 1 (x :: xs).length = xs.length + 1 := max_eq_right (Nat.le_add_left _ _)
    rw [hmax] at ht ⊢
    have hbytes := h.copyBytes (x := x) hr ht (by rw [hacc, hi, List.length_cons, Nat.zero_add]) (by rwa [hi])
      (by rw [copyAddress, hi]; exact hin)
    simpa [copyAddress, hi, Nat.add_assoc] using hbytes

/-- The turns of a `CHK_SPACE`, of a `COPY` that takes `m` of them, and of an `ADV`. -/
theorem replicate_turns (m : Nat) (τ : Turn) (ts : List Turn) :
    List.replicate (m + 2) τ ++ ts = τ :: (List.replicate m τ ++ τ :: ts) := by
  rw [List.replicate_succ, List.replicate_succ', List.cons_append, List.append_assoc]
  rfl

/-! ### The bytes accepted (R241, R248) -/

/-- A `SUBMIT` with room in the buffer, up to its `BLT_FULL`: the bytes there is room for are in the buffer, and the
offset is advanced by their number. -/
theorem Built.leads_submitted {s : State} (hb : s.Built) (hq : s.seq = .idle) {ts : List Turn} {src xs : List Byte}
    (hroom : s.offset < s.cfg.cap) (hxs : src.take (s.cfg.cap - s.offset) = xs)
    (ht : s.turns = .host (0x08 :: src.length :: src.map BitVec.toNat) ::
      List.replicate (max 1 xs.length + 2) .sequencer ++ ts) :
    s.Leads (max 1 xs.length + 3) { s with
      seq := .busy, sel := 0x08, upc := 3, polls := 0, retries := 0, resp := .none, turns := ts
      k := src.length, src := src, acc := xs.length, idx := xs.length, offset := s.offset + xs.length
      mem := s.mem.writeAll (s.cfg.bufPaddr + s.offset) xs
      trace := s.trace ++ (.req 0x08 (src.length :: src.map BitVec.toNat) :: copyEvents s.offset xs) } := by
  have hinside := hb.buffer_inside
  have hinit : xs <+: src := hxs ▸ List.take_prefix _ _
  have hlen : Nat.min src.length (s.cfg.cap - s.offset) = xs.length := by
    rw [← hxs, List.length_take]
    exact Nat.min_comm _ _
  have hfits : xs.length ≤ s.cfg.cap - s.offset := hlen ▸ Nat.min_le_right _ _
  have hin : s.cfg.bufPaddr + s.offset + xs.length ≤ 2 ^ s.cfg.paddrWidth := by omega
  have hwf : (Instr.submit src.length src).wf s.cfg = true := by simp [Instr.wf]
  have hdec := decode_encode (.submit src.length src) (by rintro _ _ ⟨⟩; rfl)
  rw [List.cons_append, replicate_turns] at ht
  have haccept := s.leads_refl.accept hq ht hdec hwf
  have hspace := haccept.micro ⟨hb, rfl, rfl⟩ rfl (exec_chkSpace_room hroom)
  have hcopy := hspace.copy ⟨hb, rfl, rfl⟩ rfl rfl hlen hinit hin
  have hadv := hcopy.micro ⟨hb, rfl, rfl⟩ rfl (exec_adv _)
  simpa [accept, State.latch, Instr.code, Instr.operands, hlen] using hadv.of_eq (m := max 1 xs.length + 3) (by omega)

/-- The run of a `SUBMIT` that does not fill the buffer. -/
theorem Built.leads_submit_room {s : State} (hb : s.Built) (hq : s.seq = .idle) {ts : List Turn} {src : List Byte}
    (hroom : s.offset + src.length < s.cfg.cap)
    (ht : s.turns = .host (0x08 :: src.length :: src.map BitVec.toNat) ::
      List.replicate (max 1 src.length + 4) .sequencer ++ ts) :
    s.Leads (max 1 src.length + 5) { s with
      seq := .idle, sel := 0x08, upc := 31, polls := 0, retries := 0, resp := .accepted src.length, turns := ts
      k := src.length, src := src, acc := src.length, idx := src.length, offset := s.offset + src.length
      mem := s.mem.writeAll (s.cfg.bufPaddr + s.offset) src
      trace := s.trace ++ (.req 0x08 (src.length :: src.map BitVec.toNat) :: copyEvents s.offset src) ++
        [.rsp (.accepted src.length)] } := by
  have hall : src.take (s.cfg.cap - s.offset) = src := List.take_of_length_le (by omega)
  rw [List.replicate_add _ 2, List.cons_append, List.append_assoc] at ht
  have hsubmitted := hb.leads_submitted hq (by omega) hall ht
  have hbranch := hsubmitted.micro ⟨hb, rfl, rfl⟩ rfl (exec_bltFull_room hroom 31)
  exact (hbranch.micro ⟨hb, rfl, rfl⟩ rfl (exec_endOp .acc _)).of_eq (by omega)

/-- In a built block the staging buffer is inside one 64 KiB-aligned block (R8). -/
theorem Built.buffer_page {s : State} (h : s.Built) : s.cfg.bufPaddr % 65536 + s.cfg.cap ≤ 65536 := by
  have hok := h.1
  simp only [Config.ok, Bool.and_eq_true, decide_eq_true_eq] at hok
  omega

/-- A session told `CNTM1` of the whole buffer is of `CAP` bytes (R29, R272). -/
theorem Built.cntM1_cap {s : State} (h : s.Built) : (cntM1 (BitVec.ofNat 17 s.cfg.cap)).toNat + 1 = s.cfg.cap := by
  have hcnt := toNat_ofNat_cap h.1
  have hm1 := cntM1_toNat (BitVec.ofNat 17 s.cfg.cap)
  have hpos := h.cap_pos
  have hpage := h.buffer_page
  omega

/-- Entries 4 to 31 of R241, with a free lock and a ready DSP that is never busy: the trigger is of the whole buffer, on
channel `DMA_CH`, and the buffer is empty again. -/
theorem Leads.submitTrigger {s t : State} {n : Nat} {ts : List Turn} {ds : List Byte} (h : s.Leads n t)
    (hr : t.Running (.loadTrig :: Microcode.triggerBody ++ [.ofsClr, .endOp .acc]))
    (ht : t.turns = List.replicate 28 .sequencer ++ ts) (hd : t.draws = List.replicate 14 0 ++ ds)
    (hk : t.lock = .free) (hready : ReadyDsp t.dsp) :
    s.Leads (n + 28) { t.setChannel t.cfg.dmaCh (.armedFor t.cfg.bufPaddr t.cfg.cap) with
      seq := .idle, upc := t.upc + 27, polls := 0, resp := .accepted t.acc, turns := ts, draws := ds, offset := 0
      paddr := t.cfg.bufPaddr, cnt := BitVec.ofNat 17 t.cfg.cap, rate := t.cfg.sampleRate, ch := t.cfg.dmaCh
      triggers := t.triggers + 1, ff := .cleared, lock := .free
      dsp := t.dsp.programmed t.cfg.sampleRate t.cfg.modeByte (cntM1 (BitVec.ofNat 17 t.cfg.cap))
      trace := t.trace ++ (triggerEvents t.cfg.dmaCh t.cfg.bufPaddr (BitVec.ofNat 17 t.cfg.cap) t.cfg.sampleRate
        t.cfg.modeByte ++ [.rsp (.accepted t.acc)]) } := by
  have hb := hr.built
  obtain ⟨c, hc⟩ := hb.channel?_dmaCh
  have hcnt := toNat_ofNat_cap hb.1
  have hlo : 1 ≤ (BitVec.ofNat 17 t.cfg.cap).toNat := hcnt.symm ▸ hb.cap_pos
  have hinside : t.cfg.bufPaddr + (BitVec.ofNat 17 t.cfg.cap).toNat ≤ 2 ^ t.cfg.paddrWidth :=
    hcnt.symm ▸ hb.buffer_inside
  have hpage : t.cfg.bufPaddr % 65536 + (BitVec.ofNat 17 t.cfg.cap).toNat ≤ 65536 := hcnt.symm ▸ hb.buffer_page
  have hhi : (BitVec.ofNat 17 t.cfg.cap).toNat ≤ 65536 := Nat.le_of_add_left_le hpage
  have hload := h.micro hr ht (exec_loadTrig _)
  have htrigger := hload.trigger (hr.drop 1 rfl rfl rfl rfl rfl) rfl hd hk hc hready hlo hhi hinside hpage
  have hclear := htrigger.micro (hr.drop 26 rfl rfl rfl rfl rfl) rfl (exec_ofsClr _)
  have hend := hclear.micro (hr.drop 27 rfl rfl rfl rfl rfl) rfl (exec_endOp .acc _)
  simpa [finish, endResponse, setChannel, hcnt] using hend

/-- The run of a `SUBMIT` that fills the buffer, with a free lock and a ready DSP that is never busy. -/
theorem Built.leads_submit_full {s : State} (hb : s.Built) (hq : s.seq = .idle) (hready : ReadyDsp s.dsp)
    (hk : s.lock = .free) {ts : List Turn} {ds src xs : List Byte} (hpos : 0 < xs.length)
    (hfill : s.offset + xs.length = s.cfg.cap) (hxs : src.take (s.cfg.cap - s.offset) = xs)
    (hd : s.draws = List.replicate 14 0 ++ ds)
    (ht : s.turns = .host (0x08 :: src.length :: src.map BitVec.toNat) ::
      List.replicate (xs.length + 31) .sequencer ++ ts) :
    s.Leads (xs.length + 32) { s.setChannel s.cfg.dmaCh (.armedFor s.cfg.bufPaddr s.cfg.cap) with
      seq := .idle, sel := 0x08, upc := 31, polls := 0, retries := 0, resp := .accepted xs.length, turns := ts
      draws := ds, k := src.length, src := src, acc := xs.length, idx := xs.length, offset := 0
      paddr := s.cfg.bufPaddr, cnt := BitVec.ofNat 17 s.cfg.cap, rate := s.cfg.sampleRate, ch := s.cfg.dmaCh
      triggers := s.triggers + 1, ff := .cleared, lock := .free
      dsp := s.dsp.programmed s.cfg.sampleRate s.cfg.modeByte (cntM1 (BitVec.ofNat 17 s.cfg.cap))
      mem := s.mem.writeAll (s.cfg.bufPaddr + s.offset) xs
      trace := s.trace ++ (.req 0x08 (src.length :: src.map BitVec.toNat) :: copyEvents s.offset xs) ++
        (triggerEvents s.cfg.dmaCh s.cfg.bufPaddr (BitVec.ofNat 17 s.cfg.cap) s.cfg.sampleRate s.cfg.modeByte ++
          [.rsp (.accepted xs.length)]) } := by
  have hturns : xs.length + 31 = max 1 xs.length + 2 + 29 := by omega
  rw [hturns, List.replicate_add _ 29, List.cons_append, List.append_assoc] at ht
  have hsubmitted := hb.leads_submitted hq (by omega) hxs ht
  have hfull := hsubmitted.micro ⟨hb, rfl, rfl⟩ rfl (exec_bltFull_full hfill.ge 31)
  exact (hfull.submitTrigger ⟨hb, rfl, rfl⟩ rfl hd hk hready).of_eq (by omega)

end State

/-! ### The runs as the statements have them (R248, R250, R251) -/

/-- Settles O58: the host, `CHK_SPACE`, the bytes copied, `ADV`, `BLT_FULL` with room left, `END ACC`. -/
theorem submitRunCopiesBytes : Obligations.SubmitRunCopiesBytes := by
  intro s ts src hb hq hroom ht
  exact ⟨_, (hb.leads_submit_room hq hroom ht).run, rfl, rfl, rfl, rfl, fun _ _ => Memory.read_writeAll_inside,
    fun _ => Memory.read_writeAll_outside, rfl, rfl, rfl, rfl⟩

/-- After the intent a trigger logs none, and its response is no intent either. -/
theorem State.triggerEvents_single (ch : ChanNo) (paddr : Nat) (c : Count) (rate : Word16) (mode : Byte)
    (r : Response) : ∃ es, triggerEvents ch paddr c rate mode ++ [.rsp r] = .logIntent paddr c rate :: es ∧
      intents es = 0 :=
  ⟨_, rfl, rfl⟩

/-- Settles O59: the host, `CHK_SPACE`, the bytes copied, `ADV`, `BLT_FULL` with the buffer filled, the trigger of the
whole buffer, `OFS_CLR`, `END ACC`. -/
theorem submitRunFiresTrigger : Obligations.SubmitRunFiresTrigger := by
  intro s ts src ds a hb hq hfill hpos hle hready hk hd ht
  have hlen : (src.take a).length = a := List.length_take_of_le hle
  have hxs : src.take (s.cfg.cap - s.offset) = src.take a := congrArg src.take (by omega)
  rw [← hlen] at hfill hpos ht
  have h := hb.leads_submit_full hq hready hk hpos hfill hxs hd ht
  obtain ⟨es, htrace, hes⟩ := State.triggerEvents_single s.cfg.dmaCh s.cfg.bufPaddr (BitVec.ofNat 17 s.cfg.cap)
    s.cfg.sampleRate s.cfg.modeByte (.accepted a)
  rw [hlen, htrace] at h
  obtain ⟨c, hc⟩ := hb.channel?_dmaCh
  refine ⟨_, h.run, rfl, rfl, rfl, ?bytes, ?frame, rfl, rfl, ⟨_, es, rfl, State.intents_copyEvents _ _, hes⟩, rfl,
    ?channel, rfl, ?session⟩
  case bytes => exact fun j x hj hx => Memory.read_writeAll_inside (by rwa [List.getElem?_take_of_lt hj])
  case frame => exact fun b hout => Memory.read_writeAll_outside (by omega)
  case channel => exact s.channel?_setChannel_same _ (State.toNat_lt_of_channel? hc)
  case session => simp [Dsp.programmed, hb.cntM1_cap]

end Sys2Proof.Machine
end

section
/-! PROOF. The DSP's side of the port (spec/46_environment.md section 3): what it does with the bytes written to it
(R261, R266), and the three commands they complete, read as instructions (R270 to R273). -/

namespace Sys2Proof.Machine

/-! ### The three commands (R270 to R272) -/

namespace State

theorem dspCommand_ready {s : State} (hs : s.dsp.st = .ready) (f : State → State) : s.dspCommand f = f s := if_pos hs

/-- A DSP that is not READY is lost by a command (R182, R266). -/
theorem dspCommand_unready {s : State} (hs : s.dsp.st ≠ .ready) (f : State → State) :
    s.dspCommand f = { s with dsp := { s.dsp with st := .unknown } } := if_neg hs

/-- The version's two bytes are queued, whatever is drawn for them (R270). -/
theorem dspVersion_frame (s : State) : s.dspVersion = { s with
    dsp := { s.dsp with out := s.dsp.out ++ [s.draw.1, s.draw.2.draw.1] }
    draws := s.dspVersion.draws, tick := s.dspVersion.tick } := by
  rw [dspVersion, draw_frame, draw_frame]
  rfl

/-- The version's two bytes are the next two to draw, the major byte first (R270). -/
theorem dspVersion_cons {s : State} {maj min : Byte} {ds : List Byte} (hd : s.draws = maj :: min :: ds) :
    s.dspVersion = { s with draws := ds, dsp := { s.dsp with out := s.dsp.out ++ [maj, min] } } := by
  simp [dspVersion, draw, hd, setDsp]

end State

theorem exec_getVersion (s : State) : exec .getVersion s = .next (s.dspCommand State.dspVersion) := rfl

theorem exec_setOutputRate (r : Word16) (s : State) :
    exec (.setOutputRate r) s = .next (s.dspCommand (·.dspSetRate r)) := rfl

theorem exec_dma8Output (m : Byte) (n : Word16) (s : State) :
    exec (.dma8Output m n) s = .next (s.dspCommand (·.dspStart m n)) := rfl

/-- Settles O37: the two draws of a READY DSP, named where `draws` holds them. -/
theorem getVersionQueuesTwoBytes : Obligations.GetVersionQueuesTwoBytes := by
  intro s
  refine ⟨fun hs => ?ready, fun hs => ?unready⟩
  case ready =>
    rw [exec_getVersion, State.dspCommand_ready hs]
    refine ⟨_, s.draw.1, s.draw.2.draw.1, rfl, s.dspVersion_frame, fun a b ds hd => ?_⟩
    simp [State.dspVersion_cons hd, State.draw, hd]
  case unready => exact ⟨_, exec_getVersion s, State.dspCommand_unready hs _⟩

/-- Settles O38: the rate is the 16-bit word of its two bytes. -/
theorem setOutputRateTakesRate : Obligations.SetOutputRateTakesRate := by
  intro s p0 p1
  have hdecode : decode .dsp [0x41, p0.toNat, p1.toNat] = .ok (.setOutputRate (word16 p0 p1)) := by
    have h := decode_encode (.setOutputRate (word16 p0 p1)) nofun
    rwa [encode, Instr.operands, hiByte_word16, loByte_word16] at h
  refine ⟨word16 p0 p1, hdecode, fun hs => ?ready, fun hs => ?unready⟩
  case ready =>
    rw [exec_setOutputRate, State.dspCommand_ready hs]
    exact ⟨_, rfl, word16_toNat p0 p1, rfl⟩
  case unready => exact ⟨_, exec_setOutputRate _ s, State.dspCommand_unready hs _⟩

/-- Settles O39: the count minus one is the 16-bit word of its two bytes, the low one written first. -/
theorem dma8OutputStartsSession : Obligations.Dma8OutputStartsSession := by
  intro s p0 p1 p2
  have hdecode : decode .dsp [0xC0, p0.toNat, p1.toNat, p2.toNat] = .ok (.dma8Output p0 (word16 p2 p1)) := by
    have h := decode_encode (.dma8Output p0 (word16 p2 p1)) nofun
    rwa [encode, Instr.operands, hiByte_word16, loByte_word16] at h
  refine ⟨p0, word16 p2 p1, hdecode, fun hs => ?ready, fun hs => ?unready⟩
  case ready =>
    rw [exec_dma8Output, State.dspCommand_ready hs, State.dspStart, word16_toNat]
    exact ⟨_, rfl, rfl⟩
  case unready => exact ⟨_, exec_dma8Output p0 _ s, State.dspCommand_unready hs _⟩

/-! ### A byte written to `RESET` (R261) -/

namespace State

/-- The DSP is held, and loses its byte, its queue, its command and its session. -/
theorem writeReset_hold (s : State) : s.writeReset 0x01 = s.setDsp s.dsp.held := rfl

theorem writeReset_release {s : State} (hs : s.dsp.st = .held) : s.writeReset 0x00 =
    s.setDsp { s.dsp with st := if s.dsp.pulseOk then .boot else .unknown, resetReg := 0x00 } := by
  rw [writeReset, if_neg (by decide), if_pos ⟨rfl, hs⟩]

/-- A release without an assert, and any value other than 0x01 and 0x00, lose the DSP. -/
theorem writeReset_lost {s : State} {x : Byte} (hx : x ≠ 0x01) (hs : x = 0x00 → s.dsp.st ≠ .held) :
    s.writeReset x = s.setDsp { s.dsp with st := .unknown, resetReg := x } := by
  rw [writeReset, if_neg hx, if_neg fun h => hs h.1 h.2]

end State

theorem exec_out_reset (s : State) (x : Byte) :
    exec (.out .reset (.imm x)) s = .next ((s.writeReset x).emit (.pw .reset x)).advance := rfl

/-- Settles O18: the value, the DSP's state and its pulse tell the cases of the write apart. -/
theorem resetWriteDrivesDsp : Obligations.ResetWriteDrivesDsp := by
  intro s x
  refine ⟨_, exec_out_reset s x, ?hold, ?boot, ?shortPulse, ?noAssert, ?otherValue, by simp, by simp⟩
  case hold =>
    rintro rfl
    rw [State.writeReset_hold]
    rfl
  case boot | shortPulse =>
    rintro rfl hs hp
    rw [State.writeReset_release hs, hp]
    rfl
  case noAssert =>
    rintro rfl hs
    rw [State.writeReset_lost (by decide) fun _ => hs]
    rfl
  case otherValue =>
    intro h1 h0
    rw [State.writeReset_lost h1 fun h => absurd h h0]
    rfl

/-! ### A byte written to `WDATA` (R266) -/

namespace State

/-- A draw looks at nothing of the DSP. -/
theorem draw_setDsp (s : State) (d : Dsp) : (s.setDsp d).draw = (s.draw.1, s.draw.2.setDsp d) := by
  simp only [draw, setDsp]
  split <;> rfl

/-- The machine as the parser finds it: the byte is in the DSP's WDATA, and the busy bit is drawn (R266). -/
def wdataTaken (s : State) (x : Byte) : State :=
  { s.draw.2 with dsp := { s.dsp with wdataReg := x, busy := drawnBit s.draw.1 } }

/-- A READY DSP that is not busy takes a byte and parses it, whatever is left to draw. -/
theorem writeWdata_taken {s : State} (hs : s.dsp.st = .ready) (hb : s.dsp.busy = false) (x : Byte) :
    s.writeWdata x = (s.wdataTaken x).dspParse x := by
  refine (if_pos ⟨hs, hb⟩).trans ?_
  rw [draw_setDsp]
  rfl

/-- A DSP that is not READY, or is busy, is lost by a byte. -/
theorem writeWdata_lost {s : State} (h : s.dsp.st ≠ .ready ∨ s.dsp.busy = true) (x : Byte) :
    s.writeWdata x = s.setDsp { s.dsp with st := .unknown, wdataReg := x } := by
  refine if_neg fun ⟨hs, hb⟩ => ?_
  rcases h with h | h
  · exact h hs
  · exact Bool.noConfusion (hb.symm.trans h)

/-- A byte at command position that opens no command loses the DSP (R273). -/
theorem dspParse_unlisted {s : State} {x : Byte} (hc : s.dsp.cmd = none) (hE1 : x ≠ 0xE1) (h41 : x ≠ 0x41)
    (hC0 : x ≠ 0xC0) : s.dspParse x = s.dspUnknown := by
  simp only [dspParse, hc]
  rw [if_neg hE1, if_neg (not_or.mpr ⟨h41, hC0⟩)]

theorem dspParse_version {s : State} (hc : s.dsp.cmd = none) : s.dspParse 0xE1 = s.dspVersion := by
  simp [dspParse, hc]

end State

theorem exec_out_wdata (s : State) (src : ByteSource) : exec (.out .wdata src) s =
    .next ((s.writeWdata (s.byteSource src)).emit (.pw .wdata (s.byteSource src))).advance := rfl

/-- An `OUT WDATA` of a literal to a READY DSP that is not busy, the busy bit named where `draws` holds it. -/
theorem exec_out_wdata_ready {s : State} {y : Byte} {ys : List Byte} (hs : s.dsp.st = .ready)
    (hb : s.dsp.busy = false) (hd : s.draws = y :: ys) (x : Byte) : exec (.out .wdata (.imm x)) s =
      .next ((({ s with draws := ys, dsp := { s.dsp with wdataReg := x, busy := drawnBit y } } : State).dspParse
        x).emit (.pw .wdata x)).advance := by
  rw [exec_out_wdata, State.byteSource, State.writeWdata_ready hs hb hd]

/-- Settles O19: the write loses the DSP, and the event and the advance follow. -/
theorem unreadyWriteLosesDsp : Obligations.UnreadyWriteLosesDsp := by
  intro s src h
  rw [exec_out_wdata, State.writeWdata_lost h]
  exact ⟨_, rfl, rfl⟩

/-- Settles O20: the busy bit is drawn, and the byte tells the parser's cases apart. -/
theorem commandByteTaken : Obligations.CommandByteTaken := by
  intro s x d0 d1 d2 ds hs hb hc hd
  refine ⟨_, exec_out_wdata_ready hs hb hd x, ?version, ?opening, ?unlisted⟩
  case version =>
    rintro rfl
    rw [State.dspParse_version (by exact hc), State.dspVersion_cons rfl]
    exact ⟨rfl, rfl⟩
  case opening =>
    intro hx
    rw [Dsp.parses_opening (by exact hc) hx _ rfl]
    exact ⟨rfl, rfl⟩
  case unlisted =>
    intro hE1 h41 hC0
    rw [State.dspParse_unlisted (by exact hc) hE1 h41 hC0]
    exact ⟨rfl, rfl⟩

/-- A 16-bit word is given by the value of its two bytes. -/
theorem word16_eq_ofNat (h l : Byte) : word16 h l = BitVec.ofNat 16 (h.toNat * 256 + l.toNat) := by
  rw [← word16_toNat, BitVec.ofNat_toNat, BitVec.setWidth_eq]

/-- Settles O21: the busy bit is drawn, and the pending command with its parameters tells the parser's cases apart. -/
theorem parameterByteTaken : Obligations.ParameterByteTaken := by
  intro s x p0 p1 d0 ds hs hb hd
  refine ⟨_, exec_out_wdata_ready hs hb hd x, ?rateHigh, ?rateLow, ?mode, ?countLow, ?countHigh⟩
  case rateHigh | mode | countLow =>
    intro hc
    rw [Dsp.parses_parameter (by exact hc) (by simp) x _ rfl]
    rfl
  case rateLow =>
    intro hc
    rw [Dsp.parses_rateLow (by exact hc) x _ rfl, word16_eq_ofNat]
    rfl
  case countHigh =>
    intro hc
    rw [Dsp.parses_countHigh (by exact hc) x _ rfl, word16_toNat]
    rfl

/-! ### The byte that completes a command (R260, R270 to R272) -/

section
variable {s : State} (hs : s.dsp.st = .ready)
include hs

theorem exec_getVersion_completed (hc : s.dsp.cmd = none) : exec .getVersion s = .next (s.dspParse 0xE1) := by
  rw [exec_getVersion, State.dspCommand_ready hs, State.dspParse_version hc]

theorem exec_setOutputRate_completed {r : Word16} (hc : s.dsp.cmd = some (0x41, [hiByte r])) :
    exec (.setOutputRate r) s = .next (s.dspParse (loByte r)) := by
  rw [exec_setOutputRate, State.dspCommand_ready hs, Dsp.parses_rateLow hc _ s rfl, word16_hi_lo]
  rfl

theorem exec_dma8Output_completed {m : Byte} {n : Word16} (hc : s.dsp.cmd = some (0xC0, [m, loByte n])) :
    exec (.dma8Output m n) s = .next (s.dspParse (hiByte n)) := by
  rw [exec_dma8Output, State.dspCommand_ready hs, Dsp.parses_countHigh hc _ s rfl, word16_hi_lo]
  rfl

end

/-- Settles O8: the DSP takes the byte and draws its busy bit, and its parser carries the command out. -/
theorem outRunsCompletedCommand : Obligations.OutRunsCompletedCommand := by
  intro s src i hs hb h
  refine ⟨(s.wdataTaken (s.byteSource src)).dspParse (s.byteSource src), ?command, ?out⟩
  case command =>
    rcases h with ⟨rfl, hc, hx⟩ | ⟨r, rfl, hc, hx⟩ | ⟨m, n, rfl, hc, hx⟩ <;> rw [hx]
    · exact exec_getVersion_completed (s := s.wdataTaken _) hs hc
    · exact exec_setOutputRate_completed (s := s.wdataTaken _) hs hc
    · exact exec_dma8Output_completed (s := s.wdataTaken _) hs hc
  case out => rw [exec_out_wdata, State.writeWdata_taken hs hb]

end Sys2Proof.Machine
end

section
/-! PROOF. The steps the other agents take of their own (spec/46_environment.md): the DSP out of reset and with bytes to
present (R267 to R269), the transfer and the starved sample (R275 to R278), a DSP in UNKNOWN (R274), the other DMA users
(R282), and the run in which a session plays its region (R284). -/

namespace Sys2Proof.Machine

/-- A turn of the DSP that stands first in the interleaving is a move of its own (R20, R260). -/
theorem step_dsp {s : State} {m : DspMove} {ts : List Turn} (h : s.turns = .dsp m :: ts) :
    step s = ({ s with turns := ts } : State).dspMove m := step_cons h

/-! ### Boot, the busy bit and the queue (R267 to R269) -/

/-- Settles O40: each move is taken exactly where its guard holds, and passes elsewhere. -/
theorem bootPresentsBytes : Obligations.BootPresentsBytes := by
  intro s ts x
  rw [step_dsp (m := .presentNoise x) rfl, step_dsp (m := .presentReady) rfl]
  refine ⟨_, _, rfl, rfl, ?noise, ?ready, ?disabled, ?readyByte⟩
  case noise => exact fun hs ha hx => if_pos ⟨hs, ha, hx⟩
  case ready => exact fun hs ha => if_pos ⟨hs, ha⟩
  case disabled =>
    intro h
    have hguard : ¬ (s.dsp.st = .boot ∧ s.dsp.avail = false) := fun ⟨hs, ha⟩ => by simp [hs, ha] at h
    exact ⟨if_neg fun ⟨hs, ha, _⟩ => hguard ⟨hs, ha⟩, if_neg hguard⟩
  case readyByte => exact fun hx => if_neg fun ⟨_, _, hne⟩ => hne hx

/-- A READY DSP presents the first byte queued when none is available (R269). -/
theorem State.dspMove_presentOutput {s : State} {x : Byte} {xs : List Byte} (ho : s.dsp.out = x :: xs)
    (hs : s.dsp.st = .ready) (ha : s.dsp.avail = false) :
    s.dspMove .presentOutput = .next (s.setDsp { s.dsp with latch := x, out := xs, avail := true }) := by
  simp [dspMove, ho, hs, ha]

theorem State.dspMove_presentOutput_passes {s : State}
    (h : s.dsp.st ≠ .ready ∨ s.dsp.out = [] ∨ s.dsp.avail = true) : s.dspMove .presentOutput = .next s := by
  cases ho : s.dsp.out with
  | nil => simp [dspMove, ho]
  | cons x xs =>
    simp only [ho, reduceCtorEq, false_or] at h
    simpa [dspMove, ho, imp_iff_not_or] using .inl h

/-- Settles O41: the busy bit's move by its guard, and the output's by the queue, the state and the byte available. -/
theorem readyDspPresentsQueue : Obligations.ReadyDspPresentsQueue := by
  intro s ts
  rw [step_dsp (m := .clearBusy) rfl, step_dsp (m := .presentOutput) rfl]
  have hpasses := State.dspMove_presentOutput_passes (s := { s with turns := ts })
  refine ⟨_, _, rfl, rfl, ?clear, ?unready, ?present, ?nothing⟩
  case clear => exact fun hs => if_pos hs
  case unready => exact fun hs => ⟨if_neg hs, Host.Outcome.next.inj (hpasses (.inl hs))⟩
  case present =>
    intro x xs ho hs ha
    exact Host.Outcome.next.inj (State.dspMove_presentOutput (s := { s with turns := ts }) ho hs ha)
  case nothing => exact fun h => Host.Outcome.next.inj (hpasses (.inr h))

/-! ### The transfer (R275, R277, R278) -/

theorem Channel.armed_iff {c : Channel} : c.armed = true ↔ c.mask = false ∧ c.xfer < c.count := by
  simp [Channel.armed]

theorem Channel.not_armed_iff {c : Channel} : c.armed = false ↔ c.mask = true ∨ c.count ≤ c.xfer := by
  simp [Channel.armed, or_iff_not_imp_left]

/-- An unmasked channel that has moved one more byte is masked exactly at terminal count (R278). -/
theorem Channel.moved_of_unmasked {c : Channel} (h : c.mask = false) :
    c.moved = { c with xfer := c.xfer + 1, mask := decide (c.xfer + 1 = c.count) } := by
  by_cases e : c.xfer + 1 = c.count <;> simp [moved, e, h]

namespace State

theorem sessionActive_of_sess {s : State} {z : Session} (hz : s.dsp.sess = some z) (hlt : z.done < z.len) :
    s.sessionActive = true := by
  simpa [sessionActive, hz] using hlt

theorem sessionActive_eq_false {s : State} (h : ∀ z, s.dsp.sess = some z → z.len ≤ z.done) :
    s.sessionActive = false := by
  unfold sessionActive
  split
  case h_1 z hz => simpa using h z hz
  case h_2 => rfl

theorem mayRequest_ready {s : State} (hs : s.dsp.st = .ready) : s.mayRequest = s.sessionActive := by
  simp [mayRequest, hs]

theorem mayRequest_unknown {s : State} (hs : s.dsp.st = .unknown) : s.mayRequest = true := by
  simp [mayRequest, hs]

theorem mayRequest_held_boot {s : State} (hs : s.dsp.st = .held ∨ s.dsp.st = .boot) : s.mayRequest = false := by
  rcases hs with hs | hs <;> simp [mayRequest, hs]

theorem dspTransfer_noChannel {s : State} (hc : s.channel? s.cfg.dmaCh = none) :
    s.dspTransfer = .fault (.dmaChannel s.cfg.dmaCh) := by
  simp only [dspTransfer, hc]

section
variable {s : State} {c : Channel} (hc : s.channel? s.cfg.dmaCh = some c) (hm : s.mayRequest = true)
  (ha : c.armed = true)
include hc hm ha

/-- An armed channel in another mode stops the model (R47; notes/assumptions/22.md). -/
theorem dspTransfer_otherMode (h : c.mode ≠ .singleM2D) : s.dspTransfer = .fault (.channelMode s.cfg.dmaCh) := by
  simp [dspTransfer, hc, hm, ha, h]

/-- A transfer from outside physical memory stops the model (R70; notes/assumptions/14.md). -/
theorem dspTransfer_outside (h : c.mode = .singleM2D) (hout : 2 ^ s.cfg.paddrWidth ≤ c.addr + c.xfer) :
    s.dspTransfer = .fault (.physicalAddress (c.addr + c.xfer)) := by
  simp [dspTransfer, hc, hm, ha, h, deliver, inMemory, hout]

/-- An armed channel in single-cycle memory-to-device mode delivers the byte (R275). -/
theorem dspTransfer_delivers (h : c.mode = .singleM2D) (hin : c.addr + c.xfer < 2 ^ s.cfg.paddrWidth) :
    s.dspTransfer = .next (s.delivered s.cfg.dmaCh c) := by
  simp [dspTransfer, hc, hm, ha, h, deliver_next hin]

/-- Where the channel is armed a transfer turn that answers has delivered the byte (R274, R275). -/
theorem eq_delivered_of_dspTransfer {t : State} (h : s.dspTransfer = .next t) :
    c.mode = .singleM2D ∧ c.addr + c.xfer < 2 ^ s.cfg.paddrWidth ∧ t = s.delivered s.cfg.dmaCh c := by
  by_cases hmode : c.mode = .singleM2D
  · by_cases hin : c.addr + c.xfer < 2 ^ s.cfg.paddrWidth
    · rw [dspTransfer_delivers hc hm ha hmode hin] at h
      exact ⟨hmode, hin, (Host.Outcome.next.inj h).symm⟩
    · rw [dspTransfer_outside hc hm ha hmode (Nat.le_of_not_lt hin)] at h
      cases h
  · rw [dspTransfer_otherMode hc hm ha hmode] at h
    cases h

end

@[simp] theorem delivered_memReset (s : State) (ch : ChanNo) (c : Channel) :
    (s.delivered ch c).memReset = (s.memRead (c.addr + c.xfer)).2.memReset := by simp [delivered]

@[simp] theorem delivered_draws (s : State) (ch : ChanNo) (c : Channel) :
    (s.delivered ch c).draws = (s.memRead (c.addr + c.xfer)).2.draws := by simp [delivered]

@[simp] theorem delivered_tick (s : State) (ch : ChanNo) (c : Channel) :
    (s.delivered ch c).tick = (s.memRead (c.addr + c.xfer)).2.tick := by simp [delivered]

/-- The byte delivered is what memory then holds there (R87). -/
theorem byteAt_delivered_same (s : State) (ch : ChanNo) (c : Channel) :
    (s.delivered ch c).byteAt (c.addr + c.xfer) = some (s.memRead (c.addr + c.xfer)).1 := by
  rw [byteAt_delivered, byteAt_memRead_same]

/-- A delivery leaves what memory holds at every other address. -/
theorem byteAt_delivered_other (s : State) (ch : ChanNo) (c : Channel) {a : Nat} (h : a ≠ c.addr + c.xfer) :
    (s.delivered ch c).byteAt a = s.byteAt a := by
  rw [byteAt_delivered, byteAt_memRead_other s h]

theorem channel?_delivered_same {s : State} {ch : ChanNo} {c : Channel} (hc : s.channel? ch = some c) :
    (s.delivered ch c).channel? ch = some c.moved := by
  rw [channel?_congr (s := s.setChannel ch c.moved) (by rw [delivered_frame]),
    channel?_setChannel_same _ _ (toNat_lt_of_channel? hc)]

theorem channel?_delivered_other (s : State) {ch h : ChanNo} (c : Channel) (hn : h ≠ ch) :
    (s.delivered ch c).channel? h = s.channel? h := by
  rw [channel?_congr (s := s.setChannel ch c.moved) (by rw [delivered_frame]), channel?_setChannel_other _ _ hn]

/-- A delivery takes a sample of a session that has one left (R275, R277). -/
theorem delivered_active {s : State} {z : Session} (hz : s.dsp.sess = some z) (hlt : z.done < z.len) (ch : ChanNo)
    (c : Channel) : s.delivered ch c = { s with
      channels := (s.delivered ch c).channels
      dsp := { s.dsp with sess := if z.done + 1 = z.len then none else some { z with done := z.done + 1 } }
      trace := s.trace ++ [.xfer ch (c.addr + c.xfer) (s.memRead (c.addr + c.xfer)).1]
      memReset := (s.delivered ch c).memReset, draws := (s.delivered ch c).draws
      tick := (s.delivered ch c).tick } := by
  have hsess : (s.delivered ch c).dsp.sess =
      if z.done + 1 = z.len then none else some { z with done := z.done + 1 } := by
    rw [delivered, stepSession_active (z := z) (by simpa using hz) hlt]
  have hframe := s.delivered_frame ch c
  rw [hsess] at hframe
  rw [hframe]

/-- The byte nothing has written is the next drawn (R66). -/
theorem memRead_drawn {s : State} {a : Nat} (h : s.byteAt a = none) {y : Byte} {ys : List Byte}
    (hd : s.draws = y :: ys) : (s.memRead a).1 = y ∧ (s.memRead a).2.draws = ys := by
  rw [memRead_unheld h, drawReset, draw_cons hd]
  exact ⟨rfl, rfl⟩

end State

/-- Settles O42: the guard, the channel's mode and the address tell the ends of the transfer apart. -/
theorem transferMovesOneByte : Obligations.TransferMovesOneByte := by
  intro s ts ht
  rw [show step s = ({ s with turns := ts } : State).dspTransfer from step_dsp ht]
  refine ⟨fun c z hs hz hlt hc hmask hx => ?active, fun c hc h => ?passes, fun hc => ?noChannel⟩
  case active =>
    replace hz : ({ s with turns := ts } : State).dsp.sess = some z := hz
    replace hc : ({ s with turns := ts } : State).channel? s.cfg.dmaCh = some c := hc
    have hm := (State.mayRequest_ready (by exact hs)).trans (State.sessionActive_of_sess hz hlt)
    have ha := Channel.armed_iff.mpr ⟨hmask, hx⟩
    refine ⟨fun hmode hin => ?moves, State.dspTransfer_outside hc hm ha, State.dspTransfer_otherMode hc hm ha⟩
    refine ⟨_, _, State.dspTransfer_delivers hc hm ha hmode hin, State.byteAt_delivered_same _ _ c,
      fun a hne => State.byteAt_delivered_other _ _ c hne, fun y hy => ?held, fun y ys hy hd => ?drawn, ?channel,
      fun h hne => State.channel?_delivered_other _ c hne, State.delivered_active hz hlt _ c⟩
    case held =>
      rw [State.delivered_memReset, State.delivered_draws, State.delivered_tick, State.memRead_held (by exact hy)]
      exact ⟨rfl, rfl, rfl, rfl⟩
    case drawn =>
      rw [State.delivered_draws]
      exact State.memRead_drawn (by exact hy) (by exact hd)
    case channel => rw [← Channel.moved_of_unmasked hmask, State.channel?_delivered_same hc]
  case passes =>
    refine State.dspTransfer_passes hc ?_
    rcases h with h | h | ⟨hs, hz⟩ | h
    · exact .inl (State.mayRequest_held_boot (.inl h))
    · exact .inl (State.mayRequest_held_boot (.inr h))
    · exact .inl ((State.mayRequest_ready hs).trans (State.sessionActive_eq_false hz))
    · exact .inr (Channel.not_armed_iff.mpr h)
  case noChannel => exact State.dspTransfer_noChannel hc

/-! ### The starved sample (R276, R277) -/

namespace State

theorem dspStarve_underruns {s : State} {c : Channel} {z : Session} (hs : s.dsp.st = .ready)
    (hz : s.dsp.sess = some z) (hlt : z.done < z.len) (hc : s.channel? s.cfg.dmaCh = some c) (ha : c.armed = false) :
    s.dspStarve = .next { s with
      trace := s.trace ++ [.underrun]
      dsp := { s.dsp with
        sess := if z.done + 1 = z.len then none else some { z with done := z.done + 1 } } } := by
  have hz' : (s.emit .underrun).dsp.sess = some z := hz
  simp only [dspStarve, hc]
  rw [if_pos ⟨hs, sessionActive_of_sess hz hlt, ha⟩, stepSession_active hz' hlt]
  rfl

theorem dspStarve_passes {s : State} {c : Channel} (hc : s.channel? s.cfg.dmaCh = some c)
    (h : s.dsp.st ≠ .ready ∨ s.sessionActive = false ∨ c.armed = true) : s.dspStarve = .next s := by
  simp only [dspStarve, hc]
  refine congrArg Host.Outcome.next (if_neg fun ⟨hs, hz, ha⟩ => ?_)
  simp [hs, hz, ha] at h

theorem dspStarve_noChannel {s : State} (hc : s.channel? s.cfg.dmaCh = none) :
    s.dspStarve = .fault (.dmaChannel s.cfg.dmaCh) := by
  simp only [dspStarve, hc]

end State

/-- Settles O43: the starved sample is taken exactly where no byte can be. -/
theorem starvedSampleUnderruns : Obligations.StarvedSampleUnderruns := by
  intro s ts ht
  rw [show step s = ({ s with turns := ts } : State).dspStarve from step_dsp ht]
  refine ⟨fun c z hs hz hlt hc h => ?underruns, fun c hc h => ?passes, fun hc => ?noChannel⟩
  case underruns =>
    exact State.dspStarve_underruns (s := { s with turns := ts }) hs hz hlt hc (Channel.not_armed_iff.mpr h)
  case passes =>
    refine State.dspStarve_passes hc ?_
    exact h.imp_right (Or.imp State.sessionActive_eq_false Channel.armed_iff.mpr)
  case noChannel => exact State.dspStarve_noChannel hc

/-! ### A DSP in UNKNOWN (R274) -/

namespace State

/-- In UNKNOWN the move `anything` sets every component to the values it names, the session's within its type (R55). -/
theorem dspMove_anything {s : State} {avail busy : Bool} {latch : Byte} {out : List Byte}
    {cmd : Option (Byte × List Byte)} {rate : Word16} {sess : Option Session} (hs : s.dsp.st = .unknown)
    (hz : ∀ z, sess = some z → 1 ≤ z.len ∧ z.len ≤ 65536 ∧ z.done ≤ z.len) :
    s.dspMove (.anything avail latch busy out cmd rate sess) = .next (s.setDsp { s.dsp with
      avail := avail, latch := latch, busy := busy, out := out, cmd := cmd, rate := rate, sess := sess }) := by
  refine congrArg Host.Outcome.next (if_pos ⟨hs, ?_⟩)
  cases sess with
  | none => rfl
  | some z => simpa [Session.typed, and_assoc] using hz z rfl

/-- What a step of a DSP in UNKNOWN can do: set its components, or deliver by its armed channel. -/
theorem dspMove_unknown {s t : State} {m : DspMove} (hs : s.dsp.st = .unknown) (h : s.dspMove m = .next t) :
    (∃ d : Dsp, d.st = .unknown ∧ t = s.setDsp d ∧
      (m = .transfer → ∀ c, s.channel? s.cfg.dmaCh = some c → c.armed = false)) ∨
    ∃ c, m = .transfer ∧ s.channel? s.cfg.dmaCh = some c ∧ c.armed = true ∧ c.mode = .singleM2D ∧
      c.addr + c.xfer < 2 ^ s.cfg.paddrWidth ∧ t = s.delivered s.cfg.dmaCh c := by
  cases m with
  | transfer =>
    change s.dspTransfer = .next t at h
    cases hc : s.channel? s.cfg.dmaCh with
    | none => simp [dspTransfer_noChannel hc] at h
    | some c =>
      cases ha : c.armed with
      | true =>
        obtain ⟨hmode, hin, ht⟩ := eq_delivered_of_dspTransfer hc (mayRequest_unknown hs) ha h
        exact .inr ⟨c, rfl, rfl, ha, hmode, hin, ht⟩
      | false =>
        rw [dspTransfer_passes hc (.inr ha)] at h
        cases h
        exact .inl ⟨s.dsp, hs, rfl, fun _ c' hc' => Option.some.inj hc' ▸ ha⟩
  | starve =>
    rcases dspStarve_next h with rfl | ⟨⟨hr, -⟩, -⟩
    · exact .inl ⟨t.dsp, hs, rfl, nofun⟩
    · simp [hs] at hr
  | presentOutput =>
    rw [dspMove_presentOutput_passes (.inl (by simp [hs]))] at h
    cases h
    exact .inl ⟨s.dsp, hs, rfl, nofun⟩
  | anything =>
    cases h
    split
    · exact .inl ⟨_, by exact hs, rfl, nofun⟩
    · exact .inl ⟨s.dsp, hs, rfl, nofun⟩
  | nothing | presentNoise | presentReady | clearBusy =>
    simp only [dspMove, hs, reduceCtorEq, false_and, if_false, Host.Outcome.next.injEq] at h
    exact .inl ⟨s.dsp, hs, h.symm, nofun⟩

theorem sameRegisters_delivered (s : State) (ch : ChanNo) (c : Channel) : s.SameRegisters (s.delivered ch c) := by
  unfold SameRegisters
  rw [delivered_frame]

end State

/-- Settles O44: the step sets components of the DSP, or it is a transfer through the armed channel. -/
theorem unknownDspIsUnconstrained : Obligations.UnknownDspIsUnconstrained := by
  intro s ts m t ht hs h
  rw [step_dsp ht] at h
  have hheld : ∀ a x, s.byteAt a = some x → t.byteAt a = some x := fun a x hx => State.dspMove_held h (by exact hx)
  have hany : ∀ avail latch busy out cmd rate sess,
      (∀ z, sess = some z → 1 ≤ z.len ∧ z.len ≤ 65536 ∧ z.done ≤ z.len) →
      m = .anything avail latch busy out cmd rate sess → t.dsp = { s.dsp with
        avail := avail, latch := latch, busy := busy, out := out, cmd := cmd, rate := rate, sess := sess } := by
    rintro _ _ _ _ _ _ _ hz rfl
    rw [State.dspMove_anything (by exact hs) hz] at h
    cases h
    rfl
  rcases State.dspMove_unknown (by exact hs) h with ⟨d, hd, rfl, harm⟩ | ⟨c, rfl, hc, ha, hmode, hin, rfl⟩
  · exact ⟨hd, rfl, rfl, rfl, hheld, .inl ⟨rfl, rfl, fun e c hc => Channel.not_armed_iff.mp (harm e c hc)⟩,
      fun _ _ => rfl, rfl, hany⟩
  · obtain ⟨hmask, hx⟩ := Channel.armed_iff.mp ha
    have hframe := State.delivered_frame { s with turns := ts } s.cfg.dmaCh c
    refine ⟨?unknown, ?mem, ?lock, ?ff, hheld, .inr ⟨c, _, rfl, hc, hmask, hx, hmode, hin,
      State.byteAt_delivered_same _ _ c, ?channel, ?trace⟩, fun h hne => State.channel?_delivered_other _ c hne,
      State.sameRegisters_delivered _ _ c, hany⟩
    case unknown => rw [hframe]; exact hs
    case channel => rw [← Channel.moved_of_unmasked hmask, State.channel?_delivered_same hc]
    case mem | lock | ff | trace => rw [hframe]

/-! ### The other DMA users (R282) -/

namespace State

theorem userMove_acquire {s : State} (h : s.lock = .free) : s.userMove .acquire = { s with lock := .other } := if_pos h

theorem userMove_acquire_passes {s : State} (h : s.lock ≠ .free) : s.userMove .acquire = s := if_neg h

theorem userMove_release {s : State} (h : s.lock = .other) : s.userMove .release = { s with lock := .free } := if_pos h

theorem userMove_release_passes {s : State} (h : s.lock ≠ .other) : s.userMove .release = s := if_neg h

/-- The lock aside, a move that acquires or releases it changes nothing. -/
theorem userMove_of_lock_move (s : State) {m : UserMove} (h : m = .acquire ∨ m = .release) :
    s.userMove m = { s with lock := (s.userMove m).lock } := by
  rcases h with rfl | rfl <;> simp only [userMove] <;> split <;> rfl

/-- A user that does not hold the lock can at most acquire it. -/
theorem userMove_of_not_held {s : State} (h : s.lock ≠ .other) (m : UserMove) :
    s.userMove m = { s with lock := (s.userMove m).lock } := by
  rcases userMove_cases s m with e | ⟨-, -, e⟩ | ⟨-, hl, -⟩ | ⟨-, -, -, -, hl, -⟩
  · rw [e]
  · rw [e]
  · exact absurd hl h
  · exact absurd hl h

section
variable {s : State} {ff : FlipFlop} {h : ChanNo} {c : Channel}

theorem userMove_configure (hl : s.lock = .other) (hn : h ≠ s.cfg.dmaCh) (hc : c.typed s.cfg = true) :
    s.userMove (.configure ff h c) = ({ s with ff := ff } : State).setChannel h c := if_pos ⟨hl, hn, hc⟩

theorem userMove_configure_passes (hg : ¬ (s.lock = .other ∧ h ≠ s.cfg.dmaCh ∧ c.typed s.cfg = true)) :
    s.userMove (.configure ff h c) = s := if_neg hg

end

end State

/-- Settles O45: what each move of another user does where it is enabled, and that it passes where it is not. -/
theorem otherUsersKeepToTheirs : Obligations.OtherUsersKeepToTheirs := by
  intro s ts m ht
  rw [step_cons ht]
  refine ⟨_, rfl, ?acquire, ?acquirePasses, ?release, ?releasePasses, ?lockMove, ?seqHeld, ?notHeld, ?dmaCh,
    ?configure, State.userMove_frame _ m⟩
  case acquire => rintro rfl hl; rw [State.userMove_acquire (by exact hl)]
  case acquirePasses => rintro rfl hl; rw [State.userMove_acquire_passes (by exact hl)]
  case release => rintro rfl hl; rw [State.userMove_release (by exact hl)]
  case releasePasses => rintro rfl hl; rw [State.userMove_release_passes (by exact hl)]
  case lockMove => intro h; rw [State.userMove_of_lock_move _ h]; exact ⟨rfl, rfl⟩
  case seqHeld => exact (State.userMove_lock_seq_iff { s with turns := ts } m).mpr
  case notHeld => intro hl; rw [State.userMove_of_not_held (by exact hl)]; exact ⟨rfl, rfl⟩
  case dmaCh => exact State.userMove_channel?_dmaCh _ m
  case configure =>
    rintro ff h c rfl
    by_cases hg : s.lock = .other ∧ h ≠ s.cfg.dmaCh ∧ c.typed s.cfg = true
    · obtain ⟨hl, hne, hty⟩ := hg
      rw [State.userMove_configure (by exact hl) (by exact hne) (by exact hty)]
      rw [Channel.typed_iff] at hty
      refine ⟨rfl, fun h' hn => State.channel?_setChannel_other _ c hn, fun _ _ hle _ _ _ _ => ⟨rfl, ?set⟩, ?refused⟩
      case set => exact State.channel?_setChannel_same _ c (by omega)
      case refused =>
        rintro (rfl | hbad)
        · exact absurd rfl hne
        · omega
    · rw [State.userMove_configure_passes (by exact hg)]
      refine ⟨rfl, fun _ _ => rfl, fun hl hne _ ha h1 hle hx => absurd ⟨hl, hne, ?typed⟩ hg, fun _ => ⟨rfl, rfl⟩⟩
      case typed => exact Channel.typed_iff.mpr ⟨ha, h1, hle, hx⟩

/-! ### A session plays its region (R284) -/

namespace State

/-- A READY DSP with the bytes `xs` still to play: as many as its session has samples left, and as channel `DMA_CH`,
armed with `c`, has bytes left, each held by memory where the channel will read it (R275). -/
structure Plays (s : State) (c : Channel) (z : Session) (xs : List Byte) : Prop where
  ready : s.dsp.st = .ready
  sess : s.dsp.sess = some z
  samples : z.done + xs.length = z.len
  channel : s.channel? s.cfg.dmaCh = some c
  unmasked : c.mask = false
  mode : c.mode = .singleM2D
  bytes : c.xfer + xs.length = c.count
  inside : c.addr + c.count ≤ 2 ^ s.cfg.paddrWidth
  held : ∀ j x, xs[j]? = some x → s.byteAt (c.addr + c.xfer + j) = some x

/-- The machine once channel `DMA_CH` has come to hold `c` and the session to be `z`, with the events `es`. -/
def played (s : State) (c : Channel) (z : Option Session) (es : List Event) (ts : List Turn) : State :=
  { s.setChannel s.cfg.dmaCh c with dsp := { s.dsp with sess := z }, trace := s.trace ++ es, turns := ts }

/-- A transfer turn plays the first of the bytes. -/
theorem Leads.transfer {s t : State} {n : Nat} {c : Channel} {z : Session} {x : Byte} {xs : List Byte}
    {ts : List Turn} (h : s.Leads n t) (hp : t.Plays c z (x :: xs)) (ht : t.turns = .dsp .transfer :: ts) :
    s.Leads (n + 1) (t.played c.moved z.next [.xfer t.cfg.dmaCh (c.addr + c.xfer) x] ts) := by
  have hsamples := hp.samples
  have hbytes := hp.bytes
  have hinside := hp.inside
  rw [List.length_cons] at hsamples hbytes
  refine h.turn ht ?_
  have hsess : ({ t with turns := ts } : State).dsp.sess = some z := hp.sess
  have hchannel : ({ t with turns := ts } : State).channel? t.cfg.dmaCh = some c := hp.channel
  have hread : ({ t with turns := ts } : State).memRead (c.addr + c.xfer) = (x, { t with turns := ts }) :=
    memRead_held (hp.held 0 x rfl)
  refine (dspTransfer_delivers hchannel ((mayRequest_ready hp.ready).trans (sessionActive_of_sess hsess (by omega)))
    (Channel.armed_iff.mpr ⟨hp.unmasked, by omega⟩) hp.mode (by dsimp; omega)).trans ?_
  rw [delivered, hread]
  exact congrArg Host.Outcome.next (stepSession_active (z := z) (by exact hsess) (by omega))

/-- What is left to play after the first of at least two bytes. -/
theorem Plays.next {s : State} {c : Channel} {z : Session} {x y : Byte} {xs : List Byte}
    (hp : s.Plays c z (x :: y :: xs)) (es : List Event) (ts : List Turn) :
    (s.played c.moved z.next es ts).Plays c.moved { z with done := z.done + 1 } (y :: xs) := by
  have hsamples := hp.samples
  have hbytes := hp.bytes
  simp only [List.length_cons] at hsamples hbytes
  have hmoved : c.moved = { c with xfer := c.xfer + 1, mask := false } := by
    rw [Channel.moved_of_unmasked hp.unmasked, decide_eq_false (by omega)]
  rw [hmoved]
  exact
    { ready := hp.ready
      sess := if_neg (by omega)
      samples := by simp only [List.length_cons]; omega
      channel := channel?_setChannel_same s _ (toNat_lt_of_channel? hp.channel)
      unmasked := rfl
      mode := hp.mode
      bytes := by simp only [List.length_cons]; omega
      inside := hp.inside
      held := fun j w hj => by
        have hw := hp.held (j + 1) w hj
        rwa [show c.addr + c.xfer + (j + 1) = c.addr + (c.xfer + 1) + j by omega] at hw }

theorem played_played (s : State) (c c' : Channel) (z z' : Option Session) (es es' : List Event) (ts ts' : List Turn) :
    (s.played c z es ts).played c' z' es' ts' = s.played c' z' (es ++ es') ts' := by
  simp [played, setChannel]

/-- The events of bytes transferred from consecutive addresses (R58, R275). -/
def xferEvents (ch : ChanNo) (a : Nat) (xs : List Byte) : List Event := xs.mapIdx fun j x => .xfer ch (a + j) x

theorem xferEvents_cons (ch : ChanNo) (a : Nat) (x : Byte) (xs : List Byte) :
    xferEvents ch a (x :: xs) = .xfer ch a x :: xferEvents ch (a + 1) xs := by
  simp [xferEvents, List.mapIdx_cons, Nat.add_assoc, Nat.add_comm 1]

/-- Transfer turns alone play all the bytes, to the end of the session and the channel's terminal count (R284). -/
theorem Leads.session {s t : State} {n : Nat} {c : Channel} {z : Session} {xs : List Byte} {ts : List Turn}
    (h : s.Leads n t) (hp : t.Plays c z xs) (hne : xs ≠ [])
    (ht : t.turns = List.replicate xs.length (.dsp .transfer) ++ ts) :
    s.Leads (n + xs.length) (t.played { c with xfer := c.count, mask := true } none
      (xferEvents t.cfg.dmaCh (c.addr + c.xfer) xs) ts) := by
  induction xs generalizing t n c z with
  | nil => exact absurd rfl hne
  | cons x xs ih =>
    have hfirst := h.transfer hp (by exact ht)
    cases xs with
    | nil =>
      have hlast : c.moved = { c with xfer := c.count, mask := true } := by
        simp [Channel.moved, ← hp.bytes]
      have hover : z.next = none := if_pos hp.samples
      rw [hlast, hover] at hfirst
      exact hfirst
    | cons y ys =>
      have hrest := ih hfirst (hp.next _ _) (List.cons_ne_nil y ys) rfl
      rw [played_played] at hrest
      rw [xferEvents_cons]
      exact hrest.of_eq (by simp only [List.length_cons]; omega)

end State

/-- Settles O60: a fresh session and a fresh channel of as many bytes play them all. -/
theorem sessionPlaysRegion : Obligations.SessionPlaysRegion := by
  intro s ts c z bs hs hz hdone hlen hne hc hmask hmode hxfer hcount hin hb ht
  have hp : s.Plays c z bs :=
    { ready := hs, sess := hz, samples := by omega, channel := hc, unmasked := hmask, mode := hmode
      bytes := by omega, inside := by omega, held := by simpa [hxfer] using hb }
  have h := s.leads_refl.session hp hne ht
  rw [Nat.zero_add, hxfer] at h
  exact ⟨_, h.run, rfl, ⟨_, State.channel?_setChannel_same s _ (State.toNat_lt_of_channel? hc), rfl, hcount⟩, rfl, rfl,
    rfl⟩

end Sys2Proof.Machine
end

section
/-! PROOF. Faults (spec/60_exceptions.md): the tests of the channel operations in their order (R307 (c)), each with the
fault it raises (R301), and what is left of a halted block's steps (R305, R306). -/

namespace Sys2Proof.Machine

/-! ### The tests of the channel operations (R205 to R210, R307) -/

namespace State

/-- The controller has no channel above 3 (R44). -/
theorem channel?_eq_none {ch : ChanNo} (h : 3 < ch.toNat) (s : State) : s.channel? ch = none := by
  have hs := s.channel?_isSome ch
  rwa [decide_eq_false (by omega), Option.isSome_eq_false_iff, Option.isNone_iff_eq_none] at hs

/-- An update of a channel the controller does not have stops the model. -/
theorem updateChannel_none {s : State} (h : s.channel? s.ch = none) (g : Channel → Channel) (f : State → Result) :
    s.updateChannel g f = .fault (.dmaChannel s.ch) := by
  simp only [updateChannel, h]

end State

/-- Each operation that needs the lock tests it first (R204 to R210, R307 (c)). -/
theorem exec_eq_underLock {i : Instr}
    (hi : i ∈ [Instr.dmaDisable, .dmaClearFf, .dmaSetMode, .dmaSetAddr, .dmaSetCount, .dmaEnable, .dmaUnlock]) :
    ∃ f, ∀ s, exec i s = s.underLock f := by
  fin_cases hi
  all_goals exact ⟨_, fun _ => rfl⟩

/-- The operations on the mask and the mode update channel `CH` once the lock's test has passed (R205, R207, R210). -/
theorem exec_eq_updateChannel {i : Instr} (hi : i ∈ [Instr.dmaDisable, .dmaSetMode, .dmaEnable]) :
    ∃ g f, ∀ s, exec i s = s.underLock fun s => s.updateChannel g f := by
  fin_cases hi
  all_goals exact ⟨_, _, fun _ => rfl⟩

/-- The operations that set the address and the count test the latch between the lock and the update of channel `CH`
(R208, R209, R307 (c)). -/
theorem exec_eq_withClearedFf {i : Instr} (hi : i ∈ [Instr.dmaSetAddr, .dmaSetCount]) :
    ∃ (g : State → Channel → Channel) (f : State → State → Result), ∀ s, exec i s =
      s.underLock fun s => s.withClearedFf fun s => s.updateChannel (g s) (f s) := by
  fin_cases hi
  all_goals exact ⟨_, _, fun _ => rfl⟩

/-- Settles O33: the lock's test, then the latch's, then the channel. -/
theorem channelOperationFaults : Obligations.ChannelOperationFaults := by
  intro s i
  refine ⟨fun hk hi => ?notLocked, fun hk hf hi => ?notCleared, fun hk hch hi => ?noChannel⟩
  case notLocked =>
    obtain ⟨f, he⟩ := exec_eq_underLock hi
    rw [he]
    exact State.underLock_not_held hk f
  case notCleared =>
    obtain ⟨g, f, he⟩ := exec_eq_withClearedFf hi
    rw [he, State.underLock_held hk]
    exact State.withClearedFf_not_cleared hf _
  case noChannel =>
    have hc := State.channel?_eq_none hch s
    rcases hi with hi | ⟨hf, hi⟩
    · obtain ⟨g, f, he⟩ := exec_eq_updateChannel hi
      rw [he, State.underLock_held hk, State.updateChannel_none hc]
    · obtain ⟨g, f, he⟩ := exec_eq_withClearedFf hi
      rw [he, State.underLock_held hk, State.withClearedFf_cleared hf, State.updateChannel_none hc]

/-! ### A halted block (R305, R306) -/

/-- In a halted block neither the sequencer nor the host has a step (R134, R135): what a turn changes is the devices'
and the other users'. -/
theorem TurnStep.frame_of_halted {s t : State} (h : TurnStep s t) (hs : s.seq = .halted) : t = { s with
    dsp := t.dsp, channels := t.channels, ff := t.ff, lock := t.lock, trace := t.trace, memReset := t.memReset
    turns := t.turns, draws := t.draws, tick := t.tick } := by
  cases h with
  | idle => rfl
  | micro _ _ hb | accepted _ _ _ hb | concurrent _ hb | reserved _ hb => exact absurd (hs.symm.trans hb) nofun
  | dsp _ _ hd => rw [State.dspMove_frame hd]
  | user m => rw [State.userMove_frame]

/-- Settles O15: a halted block runs no `COPY`, so memory keeps what it holds, and the turn's frame is the rest. -/
theorem haltedForGood : Obligations.HaltedForGood := by
  intro s t hs h
  constructor
  · rcases step_memory h with hheld | hcopied
    · exact hheld.held
    · exact absurd (hs.symm.trans hcopied.busy) nofun
  · obtain ⟨ts, k, ht⟩ := step_turn h
    exact ht.frame_of_halted hs

end Sys2Proof.Machine
end

section
/-! PROOF. The values the spec states for block reset (spec/10_state.md section 7, R61 to R66; R330). -/

namespace Sys2Proof.Machine

/-- R64, R65: block reset leaves the DSP's wired channel masked. -/
theorem State.masked_resetWith {c : Config} (h : c.ok = true) :
    ∃ r, (State.resetWith c).channel? c.dmaCh = some r ∧ r.mask = true := by
  obtain ⟨r, hr⟩ := (State.built_resetWith h).channel?_dmaCh
  exact ⟨r, hr, by rw [State.eq_resetChannel hr]; rfl⟩

/-- Settles O9: the wired channel is masked, the microcode is the eight listings, and every other register the spec
gives a reset value is reset to that value. -/
theorem resetValues : Obligations.ResetValues := by
  intro c hc
  have hmasked := State.masked_resetWith hc
  have hucode := Microcode.rom_at c
  exact ⟨rfl, rfl, rfl, rfl, rfl, rfl, rfl, rfl, rfl, rfl, rfl, rfl, rfl, hmasked, hucode⟩

end Sys2Proof.Machine
end
